-- ==== Sys2Proof/Word.lean ====
section
/-! DEFINITION. The word types of the block (00_scope.md R10). -/

namespace Sys2Proof

/-- A command, parameter or output byte (R10). -/
abbrev Byte := BitVec 8

/-- A 16-bit quantity: a position, a maximum, a raw motion (R10, R28, R60). -/
abbrev Word16 := BitVec 16

/-- A 32-bit two's-complement quantity: an accumulator or a residual (R29, R30). -/
abbrev Word32 := BitVec 32

end Sys2Proof
end

