-- ==== Sys2Proof/Syntax.lean ====
section
/-! DEFINITION. The instructions of the block: its 34 host commands (30_encoding.md R108), one constructor per row of the
opcode table, with the operands of R98. Every operand is carried as it is sent, the ignored ones too. -/

namespace Sys2Proof

/-- A host command with its operands (R96 to R98, R108). -/
inductive Instr where
  /-- 0x07 SET_MOUSE_ACTION (R142) -/
  | setMouseAction (a : Byte)
  /-- 0x08 SET_REL_MOUSE (R143) -/
  | setRelMouse
  /-- 0x09 SET_ABS_MOUSE (R144) -/
  | setAbsMouse (maxX maxY : Word16)
  /-- 0x0A SET_KEYCODE_MOUSE (R146) -/
  | setKeycodeMouse (kx ky : Byte)
  /-- 0x0B SET_THRESHOLD (R147) -/
  | setThreshold (tx ty : Byte)
  /-- 0x0C SET_SCALE (R148) -/
  | setScale (sx sy : Byte)
  /-- 0x0D INTERROGATE_MOUSE (R150) -/
  | interrogateMouse
  /-- 0x0E LOAD_MOUSE_POS (R151) -/
  | loadMousePos (filler : Byte) (x y : Word16)
  /-- 0x0F SET_YSIGN_POS (R152) -/
  | setYsignPos
  /-- 0x10 SET_YSIGN_NEG (R153) -/
  | setYsignNeg
  /-- 0x11 RESUME (R173) -/
  | resume
  /-- 0x12 DISABLE_MOUSE (R174) -/
  | disableMouse
  /-- 0x13 PAUSE (R175) -/
  | pause
  /-- 0x14 SET_JOY_AUTO (R176) -/
  | setJoyAuto
  /-- 0x15 SET_JOY_OFF (R177) -/
  | setJoyOff
  /-- 0x16 INTERROGATE_JOY (R178) -/
  | interrogateJoy
  /-- 0x17 SET_JOY_MONITOR (R179) -/
  | setJoyMonitor (r : Byte)
  /-- 0x18 NOP_18 (R180) -/
  | nop18
  /-- 0x19 NOP_19 (R181) -/
  | nop19 (p1 p2 p3 p4 p5 p6 : Byte)
  /-- 0x1A DISABLE_JOY (R182) -/
  | disableJoy
  /-- 0x80 RESET (R172) -/
  | reset (k : Byte)
  /-- 0x87 REPORT_ACTION (R204) -/
  | reportAction
  /-- 0x88 REPORT_MOUSE_MODE_88 (R205) -/
  | reportMouseMode88
  /-- 0x89 REPORT_MOUSE_MODE_89 (R206) -/
  | reportMouseMode89
  /-- 0x8A REPORT_MOUSE_MODE_8A (R207) -/
  | reportMouseMode8A
  /-- 0x8B REPORT_THRESHOLD (R208) -/
  | reportThreshold
  /-- 0x8C REPORT_SCALE (R209) -/
  | reportScale
  /-- 0x8F REPORT_YSIGN_8F (R210) -/
  | reportYsign8F
  /-- 0x90 REPORT_YSIGN_90 (R211) -/
  | reportYsign90
  /-- 0x92 REPORT_MOUSE_AVAIL (R212) -/
  | reportMouseAvail
  /-- 0x94 REPORT_JOY_MODE_94 (R213) -/
  | reportJoyMode94
  /-- 0x95 REPORT_JOY_MODE_95 (R214) -/
  | reportJoyMode95
  /-- 0x99 REPORT_JOY_MODE_99 (R215) -/
  | reportJoyMode99
  /-- 0x9A REPORT_JOY_AVAIL (R216) -/
  | reportJoyAvail
  deriving DecidableEq, Repr

end Sys2Proof
end

