-- ==== Sys2Proof/Config.lean ====
section
/-! DEFINITION. What an implementation of the block fixes (00_scope.md R9), and the free values.

The parameters the spec leaves open are one record, `Config`, which State carries and no step writes
(DESIGN CHOICE, safe, log 5): a statement about every state is a statement about every configuration.
The parameters the source fixes are plain constants. -/

namespace Sys2Proof

/-- CMD_CAP, the capacity of the command input buffer in bytes (R9, R23). -/
def cmdCap : Nat := 8

/-- N_KEYS, the entries of the KeyState table (R9, R42). -/
def nKeys : Nat := 128

/-- CURSOR_MAX_STEPS, the cursor-key steps of one tick (R9, R244). -/
def cursorMaxSteps : Nat := 10

/-- REL_LOOP: how many relative packets one tick offers (R9, R242, D5). -/
inductive RelLoop where
  /-- at most one (the default) -/
  | perTick
  /-- until no packet is owed -/
  | untilConverged
  deriving DecidableEq, Repr

/-- DELAY_POLICY: the effect of the delay argument of a delayed enqueue (R9, R75, D2).
The spec defines one value only (93_implementation_defined.md U10). -/
inductive DelayPolicy where
  | immediate
  deriving DecidableEq, Repr

/-- REPORT_LEN of one report command: 7 or 8 bytes (R202). -/
inductive ReportLen where
  | seven
  | eight
  deriving DecidableEq, Repr

/-- The length in bytes that a `ReportLen` stands for (R202). -/
def ReportLen.bytes : ReportLen → Nat
  | .seven => 7
  | .eight => 8

/-- REPORT_LEN(c) for each of the thirteen report commands, 8 by default (R202, D24). -/
structure ReportLens where
  r87 : ReportLen := .eight
  r88 : ReportLen := .eight
  r89 : ReportLen := .eight
  r8A : ReportLen := .eight
  r8B : ReportLen := .eight
  r8C : ReportLen := .eight
  r8F : ReportLen := .eight
  r90 : ReportLen := .eight
  r92 : ReportLen := .eight
  r94 : ReportLen := .eight
  r95 : ReportLen := .eight
  r99 : ReportLen := .eight
  r9A : ReportLen := .eight
  deriving DecidableEq, Repr

/-- The reset configuration that R9 lists as a parameter: the reset values of the action flags, the maxima,
the scales, the thresholds, the key steps and the Y sign. The defaults are R58's values (D26, log 21). -/
structure ResetValues where
  action : BitVec 3 := 0b000
  maxX : Word16 := 0xFFFF
  maxY : Word16 := 0xFFFF
  scaleX : Byte := 1
  scaleY : Byte := 1
  thrX : Byte := 1
  thrY : Byte := 1
  kcX : Byte := 1
  kcY : Byte := 1
  ysign : Bool := false
  deriving DecidableEq, Repr

/-- The parameters of R9 that the spec leaves open, each with R9's default. -/
structure Config where
  /-- OUT_CAP, the capacity of the output FIFO in bytes (R24, D42). -/
  outCap : Nat := 512
  /-- REL_LOOP (R242). -/
  relLoop : RelLoop := .perTick
  /-- THRESH_STRICT (R240): the relative threshold compare is strict. -/
  threshStrict : Bool := true
  /-- REPORT_LEN(c) (R202). -/
  reportLen : ReportLens := {}
  /-- BOOT_BYTE, the boot-completion byte (R323, D29). The default is general knowledge (GK12, log 18). -/
  bootByte : Byte := 0xF1
  /-- N_CLOCK, the number of persisted clock bytes (R49, D39). The default is general knowledge (GK13, log 18). -/
  nClock : Nat := 6
  /-- DELAY_POLICY (R75). -/
  delayPolicy : DelayPolicy := .immediate
  /-- The reset configuration (R58). -/
  resetValues : ResetValues := {}
  deriving DecidableEq, Repr

/-- FREE VALUE: the n-th byte of content that the spec calls unspecified, which is CMDBUF after a reset event
(10_state.md R58, 93_implementation_defined.md U2; log 8). Nothing constrains it. -/
opaque Config.freeByte : Nat → Byte

/-- FREE VALUE: the delay argument of the delayed response to command byte `c`. R75 gives no delay values and says that
the argument has no effect (log 10). -/
opaque Config.responseDelay : Byte → Nat

/-- FREE VALUE: the delay argument of the boot byte's delayed enqueue (R75, R322; log 10). -/
opaque Config.bootDelay : Nat

/-- FREE VALUE: T_BOOT, the length of the boot window. OPEN and without a default (R9, D28); no rule reads it (R321, log 11). -/
opaque Config.tBoot : Nat

end Sys2Proof
end

