-- ==== Sys2Proof/WellFormed.lean ====
section
/-! DEFINITION. Which configurations and which instructions are well formed.

Every operand of every command is legal at every value it can hold (30_encoding.md R99, R112), and the operand types hold
exactly those values, so the instruction check refuses nothing. The configuration check has two parts, each of
93_implementation_defined.md U7 and 92_eei_decisions.md D42. -/

namespace Sys2Proof

/-- OUT_CAP is at least 8, so that every packet fits an empty FIFO (R329, U7). -/
def Config.roomForPackets (c : Config) : Bool := decide (8 ≤ c.outCap)

/-- OUT_CAP is a power of two (R9, D42). -/
def Config.capPowerOfTwo (c : Config) : Bool := decide (2 ^ Nat.log2 c.outCap = c.outCap)

/-- The configurations the block may be built with. "A configuration with OUT_CAP < 8: refuse" (U7). -/
def Config.wf (c : Config) : Bool := c.roomForPackets && c.capPowerOfTwo

/-- Every parameter value of every command is legal (R112), 0x80's second byte among them: a value other than 0x01
makes a no-op that still completes. -/
def Instr.wf (i : Instr) : Bool :=
  match i with
  | .setMouseAction _ => true
  | .setRelMouse => true
  | .setAbsMouse _ _ => true
  | .setKeycodeMouse _ _ => true
  | .setThreshold _ _ => true
  | .setScale _ _ => true
  | .interrogateMouse => true
  | .loadMousePos _ _ _ => true
  | .setYsignPos => true
  | .setYsignNeg => true
  | .resume => true
  | .disableMouse => true
  | .pause => true
  | .setJoyAuto => true
  | .setJoyOff => true
  | .interrogateJoy => true
  | .setJoyMonitor _ => true
  | .nop18 => true
  | .nop19 _ _ _ _ _ _ => true
  | .disableJoy => true
  | .reset _ => true
  | .reportAction => true
  | .reportMouseMode88 => true
  | .reportMouseMode89 => true
  | .reportMouseMode8A => true
  | .reportThreshold => true
  | .reportScale => true
  | .reportYsign8F => true
  | .reportYsign90 => true
  | .reportMouseAvail => true
  | .reportJoyMode94 => true
  | .reportJoyMode95 => true
  | .reportJoyMode99 => true
  | .reportJoyAvail => true

end Sys2Proof
end

