-- ==== Sys2Proof/Decode.lean ====
section
/-! DEFINITION. The command decoder, the encoder, and the byte-order helpers both use (30_encoding.md, 40_command_interpreter.md). -/

namespace Sys2Proof

/-! ## Byte order (20_memory.md R85, R86) -/

/-- The big-endian 16-bit value `{hi, lo}` (R11, R85). -/
def be16 (hi lo : Byte) : Word16 := hi ++ lo

/-- `v[15:8]`, the byte sent first (R86). -/
def hiByte (v : Word16) : Byte := v.extractLsb' 8 8

/-- `v[7:0]`, the byte sent second (R86). -/
def loByte (v : Word16) : Byte := v.extractLsb' 0 8

/-! ## The command table -/

/-- One entry of the command table: command byte, total length, and the operand assembly of R98, where `p n` is the
parameter at byte offset `n`. -/
structure CommandRow where
  byte : Byte
  len : Nat
  build : (Nat → Byte) → Instr

/-- The command map of R108, in its order. The table's end is its terminal sentinel (R123). -/
def commandTable : List CommandRow := [
  ⟨0x07, 2, fun p => .setMouseAction (p 1)⟩,
  ⟨0x08, 1, fun _ => .setRelMouse⟩,
  ⟨0x09, 5, fun p => .setAbsMouse (be16 (p 1) (p 2)) (be16 (p 3) (p 4))⟩,
  ⟨0x0A, 3, fun p => .setKeycodeMouse (p 1) (p 2)⟩,
  ⟨0x0B, 3, fun p => .setThreshold (p 1) (p 2)⟩,
  ⟨0x0C, 3, fun p => .setScale (p 1) (p 2)⟩,
  ⟨0x0D, 1, fun _ => .interrogateMouse⟩,
  ⟨0x0E, 6, fun p => .loadMousePos (p 1) (be16 (p 2) (p 3)) (be16 (p 4) (p 5))⟩,
  ⟨0x0F, 1, fun _ => .setYsignPos⟩,
  ⟨0x10, 1, fun _ => .setYsignNeg⟩,
  ⟨0x11, 1, fun _ => .resume⟩,
  ⟨0x12, 1, fun _ => .disableMouse⟩,
  ⟨0x13, 1, fun _ => .pause⟩,
  ⟨0x14, 1, fun _ => .setJoyAuto⟩,
  ⟨0x15, 1, fun _ => .setJoyOff⟩,
  ⟨0x16, 1, fun _ => .interrogateJoy⟩,
  ⟨0x17, 2, fun p => .setJoyMonitor (p 1)⟩,
  ⟨0x18, 1, fun _ => .nop18⟩,
  ⟨0x19, 7, fun p => .nop19 (p 1) (p 2) (p 3) (p 4) (p 5) (p 6)⟩,
  ⟨0x1A, 1, fun _ => .disableJoy⟩,
  ⟨0x80, 2, fun p => .reset (p 1)⟩,
  ⟨0x87, 1, fun _ => .reportAction⟩,
  ⟨0x88, 1, fun _ => .reportMouseMode88⟩,
  ⟨0x89, 1, fun _ => .reportMouseMode89⟩,
  ⟨0x8A, 1, fun _ => .reportMouseMode8A⟩,
  ⟨0x8B, 1, fun _ => .reportThreshold⟩,
  ⟨0x8C, 1, fun _ => .reportScale⟩,
  ⟨0x8F, 1, fun _ => .reportYsign8F⟩,
  ⟨0x90, 1, fun _ => .reportYsign90⟩,
  ⟨0x92, 1, fun _ => .reportMouseAvail⟩,
  ⟨0x94, 1, fun _ => .reportJoyMode94⟩,
  ⟨0x95, 1, fun _ => .reportJoyMode95⟩,
  ⟨0x99, 1, fun _ => .reportJoyMode99⟩,
  ⟨0x9A, 1, fun _ => .reportJoyAvail⟩]

/-- `Lookup(c)`: linear search, first match wins (R123). -/
def lookup (c : Byte) : Option CommandRow := commandTable.find? fun e => e.byte == c

/-- The total length of the command that byte `c` starts, from `c` alone (R100). -/
def commandLength (c : Byte) : Option Nat := (lookup c).map (·.len)

/-! ## The decoder -/

/-- What the bytes at the front of the command buffer are. -/
inductive Decoded where
  /-- a whole command, and the bytes after it -/
  | command (i : Instr) (rest : List Byte)
  /-- a known command byte whose `len` bytes have not all arrived (R124) -/
  | wait (len : Nat)
  /-- no command starts with this byte (R110, R126) -/
  | unknown (c : Byte)
  /-- no byte at all -/
  | empty
  deriving DecidableEq, Repr

/-- The decoder. Only the first byte takes part in the match (R123); the next `len - 1` bytes are that command's
parameters, whatever they hold (R99, R127). -/
def decode (bytes : List Byte) : Decoded :=
  match bytes with
  | [] => .empty
  | c :: _ =>
    match lookup c with
    | none => .unknown c
    | some e =>
      if bytes.length < e.len then .wait e.len
      else .command (e.build fun n => bytes.getD n 0) (bytes.drop e.len)

/-! ## The encoder -/

/-- The bytes of a command, in the order they are sent (R97, R98, R115). -/
def encode (i : Instr) : List Byte :=
  match i with
  | .setMouseAction a => [0x07, a]
  | .setRelMouse => [0x08]
  | .setAbsMouse x y => [0x09, hiByte x, loByte x, hiByte y, loByte y]
  | .setKeycodeMouse kx ky => [0x0A, kx, ky]
  | .setThreshold tx ty => [0x0B, tx, ty]
  | .setScale sx sy => [0x0C, sx, sy]
  | .interrogateMouse => [0x0D]
  | .loadMousePos f x y => [0x0E, f, hiByte x, loByte x, hiByte y, loByte y]
  | .setYsignPos => [0x0F]
  | .setYsignNeg => [0x10]
  | .resume => [0x11]
  | .disableMouse => [0x12]
  | .pause => [0x13]
  | .setJoyAuto => [0x14]
  | .setJoyOff => [0x15]
  | .interrogateJoy => [0x16]
  | .setJoyMonitor r => [0x17, r]
  | .nop18 => [0x18]
  | .nop19 p1 p2 p3 p4 p5 p6 => [0x19, p1, p2, p3, p4, p5, p6]
  | .disableJoy => [0x1A]
  | .reset k => [0x80, k]
  | .reportAction => [0x87]
  | .reportMouseMode88 => [0x88]
  | .reportMouseMode89 => [0x89]
  | .reportMouseMode8A => [0x8A]
  | .reportThreshold => [0x8B]
  | .reportScale => [0x8C]
  | .reportYsign8F => [0x8F]
  | .reportYsign90 => [0x90]
  | .reportMouseAvail => [0x92]
  | .reportJoyMode94 => [0x94]
  | .reportJoyMode95 => [0x95]
  | .reportJoyMode99 => [0x99]
  | .reportJoyAvail => [0x9A]

/-! ## Table words -/

/-- The `n` bytes of a table word: byte `k` is bits `8k+7 .. 8k` (spec/opcode_table.json's numbering). -/
def wordBytes : Nat → Nat → List Byte
  | 0, _ => []
  | n + 1, w => BitVec.ofNat 8 w :: wordBytes n (w / 256)

/-- The longest command is 7 bytes (R101, R128). -/
def longestCommand : Nat := 7

/-- The bytes, in sending order, of an instruction whose `nbits` table bits are `w`; every bit above `nbits` is 0. -/
def tableBytes (nbits w : Nat) : List Byte := wordBytes longestCommand (w % 2 ^ nbits)

/-- The instruction the decoder reads from a table word. -/
def decodeTableWord (nbits w : Nat) : Option Instr :=
  match decode (tableBytes nbits w) with
  | .command i _ => some i
  | .wait _ => none
  | .unknown _ => none
  | .empty => none

end Sys2Proof
end

