-- ==== Sys2Proof/Machine/State.lean ====
section
/-! DEFINITION. The state of the block (10_state.md), the events it takes (00_scope.md R7, 10_state.md R60), why a step can
stop, and the state after reset (R58, 70_reset_and_hazards.md R319). -/

namespace Sys2Proof.Machine

/-- MMODE, the mouse mode (R16, R25). -/
inductive MouseMode where
  | off
  | relative
  | absolute
  | cursorKey
  deriving DecidableEq, Repr

/-- The 2-bit code of a mouse mode (R16). No rule reads it (93_implementation_defined.md U19). -/
def MouseMode.code : MouseMode → BitVec 2
  | .off => 0
  | .relative => 1
  | .absolute => 2
  | .cursorKey => 3

/-- JMODE, the joystick mode (R16, R38). -/
inductive JoyMode where
  | off
  | auto
  | monitoring
  deriving DecidableEq, Repr

/-- The 2-bit code of a joystick mode; code 3 is unused (R16). No rule reads it (U19). -/
def JoyMode.code : JoyMode → BitVec 2
  | .off => 0
  | .auto => 1
  | .monitoring => 2

/-- The two resets (R317). -/
inductive ResetKind where
  | cold
  | warm
  deriving DecidableEq, Repr

/-- The input events, one per input port, and the consumer's request (R7, R60). -/
inductive Event where
  /-- a byte from the host (R121) -/
  | hostByte (b : Byte)
  /-- the frame tick, with the joystick lines sampled at it (R231) -/
  | tick (j0raw j1raw : Byte)
  /-- a key transition: code 0..127 and whether it is now pressed (R281) -/
  | keyTransition (code : BitVec 7) (pressed : Bool)
  /-- raw mouse motion (R283) -/
  | mouseMotion (dx dy : Word16)
  /-- the physical mouse buttons (R284) -/
  | mouseButtons (l r : Bool)
  /-- the boot one-shot timer's expiry, enabled while TIMER_ARMED = 1 (R322) -/
  | bootTimerExpire
  /-- the host serial transmitter takes one byte, enabled while OUT_COUNT > 0 (R76) -/
  | outPop
  /-- the power-on or hardware reset (R316) -/
  | coldReset
  deriving DecidableEq, Repr

/-- What the block puts on its output ports (R60). -/
inductive Output where
  /-- the byte an OutPop returned -/
  | byte (b : Byte)
  /-- the BootTimerArm strobe -/
  | bootTimerArm
  deriving DecidableEq, Repr

/-- OUTBUF, OUT_HEAD, OUT_TAIL and OUT_COUNT: the circular byte buffer of the output channel (R24). -/
structure OutFifo where
  buf : List Byte
  head : Nat
  tail : Nat
  count : Nat
  deriving DecidableEq, Repr

/-- The whole state of the block, its configuration, and the environment's two lists. Plain data. -/
structure State where
  /-- the configuration (R9), which no step writes (log 5) -/
  cfg : Config
  /-- MODEL: the environment's schedule, the next event first (log 1) -/
  inputs : List Event
  /-- MODEL: everything put on the output ports, oldest first (log 4) -/
  outputs : List Output
  /-- MODEL: how many free bytes have been drawn (log 8) -/
  freeCount : Nat
  /-- CMDBUF[0..7] (R23) -/
  cmdBuf : Vector Byte 8
  /-- CMDLEN, 0..8 (R23) -/
  cmdLen : Fin 9
  /-- OUTBUF, OUT_HEAD, OUT_TAIL, OUT_COUNT (R24) -/
  out : OutFifo
  /-- PAUSE (R24) -/
  pause : Bool
  /-- MMODE (R25) -/
  mmode : MouseMode
  /-- ACTION: bit 0 ACT_PRESS_ABS, bit 1 ACT_RELEASE_ABS, bit 2 ACT_KEYS (R26) -/
  action : BitVec 3
  /-- ABS_X (R27) -/
  absX : Word16
  /-- ABS_Y (R27) -/
  absY : Word16
  /-- MAX_X (R28) -/
  maxX : Word16
  /-- MAX_Y (R28) -/
  maxY : Word16
  /-- ACC_X, two's complement (R29) -/
  accX : Word32
  /-- ACC_Y, two's complement (R29) -/
  accY : Word32
  /-- DELTA_X, two's complement (R30) -/
  deltaX : Word32
  /-- DELTA_Y, two's complement (R30) -/
  deltaY : Word32
  /-- SCALE_X (R31) -/
  scaleX : Byte
  /-- SCALE_Y (R31) -/
  scaleY : Byte
  /-- THR_X (R32) -/
  thrX : Byte
  /-- THR_Y (R32) -/
  thrY : Byte
  /-- KC_X (R33) -/
  kcX : Byte
  /-- KC_Y (R33) -/
  kcY : Byte
  /-- YSIGN: false is sign +1, true is sign −1 (R34) -/
  ysign : Bool
  /-- BTN_L: bit 0 SRC_MOUSE, bit 1 SRC_JOY (R35) -/
  btnL : BitVec 2
  /-- BTN_R: bit 0 SRC_MOUSE, bit 1 SRC_JOY (R35) -/
  btnR : BitVec 2
  /-- BTN_L_PREV (R36) -/
  btnLPrev : BitVec 2
  /-- BTN_R_PREV (R36) -/
  btnRPrev : BitVec 2
  /-- ABS_PREV_MASK (R37) -/
  absPrevMask : BitVec 4
  /-- JMODE (R38) -/
  jmode : JoyMode
  /-- JCUR0 (R39) -/
  jcur0 : Byte
  /-- JCUR1 (R39) -/
  jcur1 : Byte
  /-- JPREV0 (R40) -/
  jprev0 : Byte
  /-- JPREV1 (R40) -/
  jprev1 : Byte
  /-- JRATE (R41) -/
  jrate : Byte
  /-- KEYSTATE[0..127], true is pressed (R42) -/
  keyState : Vector Bool 128
  /-- BOOTING: the phase is Booting, else Ready (R16, R43) -/
  booting : Bool
  /-- MDIS (R44) -/
  mdis : Bool
  /-- JDIS (R45) -/
  jdis : Bool
  /-- BOTH (R46) -/
  both : Bool
  /-- MEDR (R47) -/
  medr : Bool
  /-- TIMER_ARMED (R48) -/
  timerArmed : Bool
  /-- CLOCK[0..N_CLOCK-1] (R49) -/
  clock : List Byte
  deriving DecidableEq, Repr

/-- Why a step faults: never. "No exception-style error propagation exists at this layer" and every input is handled to
completion (60_exceptions.md R296, 20_memory.md R78), so no constructor stands here and no one raises one (DEDUCED, safe, log 15). -/
inductive Fault where
  deriving DecidableEq, Repr

/-- Why a step is refused. -/
inductive Refusal where
  /-- Raised by an arm of `exec` whose instruction has no meaning yet. Safe: the machine stops. No arm raises it. -/
  | notModelled (mnemonic : String)
  /-- Raised by `step` in a state whose configuration is not well formed: OUT_CAP below 8 or no power of two, which
  93_implementation_defined.md U7 says to refuse. Safe: the machine stops (log 6). -/
  | badConfiguration
  deriving DecidableEq, Repr

/-- R37's seed of ABS_PREV_MASK: the first report shows press bits only. PRESUMED by the spec (GK5; log 18). -/
def absMaskSeed : BitVec 4 := 0b0101

/-- The state the block starts in with configuration `c`: that of `Reset(Cold)`, the boot timer armed (R58, R319).
DESIGN CHOICE, unsafe (log 7): CMDBUF and OUTBUF, whose contents R58 leaves unspecified, hold 0x00 at power-on. -/
def State.initial (c : Config) : State where
  cfg := c
  inputs := []
  outputs := [.bootTimerArm]
  freeCount := 0
  cmdBuf := Vector.replicate 8 0
  cmdLen := 0
  out := { buf := List.replicate c.outCap 0, head := 0, tail := 0, count := 0 }
  pause := false
  mmode := .relative
  action := c.resetValues.action
  absX := 0
  absY := 0
  maxX := c.resetValues.maxX
  maxY := c.resetValues.maxY
  accX := 0
  accY := 0
  deltaX := 0
  deltaY := 0
  scaleX := c.resetValues.scaleX
  scaleY := c.resetValues.scaleY
  thrX := c.resetValues.thrX
  thrY := c.resetValues.thrY
  kcX := c.resetValues.kcX
  kcY := c.resetValues.kcY
  ysign := c.resetValues.ysign
  btnL := 0
  btnR := 0
  btnLPrev := 0
  btnRPrev := 0
  absPrevMask := absMaskSeed
  jmode := .auto
  jcur0 := 0
  jcur1 := 0
  jprev0 := 0
  jprev1 := 0
  jrate := 1
  keyState := Vector.replicate 128 false
  booting := true
  mdis := false
  jdis := false
  both := false
  medr := false
  timerArmed := true
  clock := List.replicate c.nClock 0

/-- The machine right after reset: R58's cold column under R9's default configuration. -/
def State.reset : State := State.initial {}

end Sys2Proof.Machine
end

