-- ==== Sys2Proof/Machine/Operands.lean ====
section
/-! DEFINITION. Numbers and bit fields: the notation of 00_scope.md R11 and R12, and the fields of the masks. -/

namespace Sys2Proof.Machine

/-! ## Integers and words (R12) -/

/-- `u_8(v)`: `v mod 2^8`. -/
def u8 (v : Int) : Byte := BitVec.ofInt 8 v

/-- `u_16(v)`: `v mod 2^16`. -/
def u16 (v : Int) : Word16 := BitVec.ofInt 16 v

/-- `s_32(v)`: the two's-complement word of `v mod 2^32`. -/
def s32 (v : Int) : Word32 := BitVec.ofInt 32 v

/-- `sext_16(v)`: the signed value of a raw motion (R60, R283). -/
def sext16 (v : Word16) : Int := v.toInt

/-- `sext_32(v)`: the signed value of an accumulator or a residual. -/
def sext32 (v : Word32) : Int := v.toInt

/-- An unsigned 8-bit quantity as an integer (R98: no operand is signed). -/
def zext8 (v : Byte) : Int := (v.toNat : Int)

/-- An unsigned 16-bit quantity as an integer. -/
def zext16 (v : Word16) : Int := (v.toNat : Int)

/-- `clamp(v, lo, hi) = min(max(v, lo), hi)`. -/
def clamp (v lo hi : Int) : Int := min (max v lo) hi

/-- The smaller of two unsigned 16-bit values (R145). -/
def umin16 (a b : Word16) : Word16 := if a.toNat ≤ b.toNat then a else b

/-! ## Button masks (R35) -/

/-- `pressed(m)`: the mask is not zero (R12, R35). -/
def pressed (m : BitVec 2) : Bool := m != 0

/-- Mask `m` with SRC_MOUSE, bit 0, set to `v`. -/
def withSrcMouse (m : BitVec 2) (v : Bool) : BitVec 2 := (m &&& 0b10) ||| (BitVec.ofBool v).setWidth 2

/-- Mask `m` with SRC_JOY, bit 1, set to `v`. -/
def withSrcJoy (m : BitVec 2) (v : Bool) : BitVec 2 := (m &&& 0b01) ||| ((BitVec.ofBool v).setWidth 2 <<< 1)

/-! ## Action flags (R26) -/

/-- ACT_PRESS_ABS, bit 0 of ACTION. -/
def actPressAbs (a : BitVec 3) : Bool := a.getLsbD 0

/-- ACT_RELEASE_ABS, bit 1 of ACTION. -/
def actReleaseAbs (a : BitVec 3) : Bool := a.getLsbD 1

/-- ACT_KEYS, bit 2 of ACTION. -/
def actKeys (a : BitVec 3) : Bool := a.getLsbD 2

/-! ## Joystick masks (R61) -/

/-- `dir(m) = m[3:0]`. -/
def dir (m : Byte) : BitVec 4 := m.extractLsb' 0 4

/-- `fire(m) = m[7]`. -/
def fire (m : Byte) : Bool := m.getLsbD 7

/-- The raw lines with bits 6:4 masked off (R61, R271). -/
def joyLines (raw : Byte) : Byte := raw &&& 0x8F

/-! ## The Y sign (R34) -/

/-- `ysign()`: +1 or −1. -/
def ysignFactor (negative : Bool) : Int := if negative then -1 else 1

/-! ## Scales (R31, R234) -/

/-- The factor a scale register stands for: 0 and 1 mean no scaling. -/
def scaleFactor (scale : Byte) : Int := if scale.toNat > 1 then zext8 scale else 1

end Sys2Proof.Machine
end

