-- ==== Sys2Proof/Machine/Flags.lean ====
section
/-! DEFINITION. The tests the report engines make: button edges (44_mouse_report_engine.md R235), the relative threshold
(R240), the cursor-key residual (R244). The block has no arithmetic condition codes (10_state.md R51). -/

namespace Sys2Proof.Machine

/-- `edgeL` (R235): only pressed against not pressed is compared. -/
def edgeL (s : State) : Bool := pressed s.btnL != pressed s.btnLPrev

/-- `edgeR` (R235). -/
def edgeR (s : State) : Bool := pressed s.btnR != pressed s.btnRPrev

/-- `pressEdge` (R235): either button went from not pressed to pressed. -/
def pressEdge (s : State) : Bool :=
  (pressed s.btnL && !pressed s.btnLPrev) || (pressed s.btnR && !pressed s.btnRPrev)

/-- `releaseEdge` (R235): either button went from pressed to not pressed. -/
def releaseEdge (s : State) : Bool :=
  (!pressed s.btnL && pressed s.btnLPrev) || (!pressed s.btnR && pressed s.btnRPrev)

/-- `exceeds(c, t)` (R240), strict or not by THRESH_STRICT (D6). -/
def exceeds (strict : Bool) (c t : Int) : Bool :=
  if strict then decide ((c < 0 ∧ c < -t) ∨ (c > 0 ∧ c > t))
  else decide ((c < 0 ∧ c ≤ -t) ∨ (c > 0 ∧ c ≥ t))

/-- A cursor-key axis with residual `d` and step size `k` owes a step toward the negative side (R243). -/
def stepsBack (d k : Int) : Bool := decide (d ≠ 0 ∧ d ≤ -k)

/-- A cursor-key axis with residual `d` and step size `k` owes a step toward the positive side (R243). -/
def stepsForward (d k : Int) : Bool := decide (d ≠ 0 ∧ d ≥ k)

/-- `CursorDue()` (R244). -/
def cursorDue (s : State) : Bool :=
  stepsBack (sext32 s.deltaX) (zext8 s.kcX) || stepsForward (sext32 s.deltaX) (zext8 s.kcX) ||
    stepsBack (sext32 s.deltaY) (zext8 s.kcY) || stepsForward (sext32 s.deltaY) (zext8 s.kcY) ||
    edgeL s || edgeR s

/-- `cur` of R149: bit 0 right pressed, bit 1 right released, bit 2 left pressed, bit 3 left released
(PRESUMED by the spec, GK5; log 18). -/
def buttonLevels (l r : BitVec 2) : BitVec 4 :=
  (if pressed r then 0b0001 else 0b0010) ||| (if pressed l then 0b0100 else 0b1000)

/-- The button bits of a relative packet's header: 0x02 left, 0x01 right (R241; PRESUMED by the spec, GK4; log 18). -/
def relButtons (l r : BitVec 2) : Byte :=
  (if pressed l then 0x02 else 0x00) ||| (if pressed r then 0x01 else 0x00)

end Sys2Proof.Machine
end

