-- ==== Sys2Proof/Machine/Ops.lean ====
section
/-! DEFINITION. The operations shared by commands and events: the output FIFO (20_memory.md), the absolute report
(41_mouse_commands.md R149), the position clamp (R145), the two resets (70_reset_and_hazards.md R317), the both-disabled quirk
(R326), and the dispatch every command runs in (40_command_interpreter.md R125).

The block takes no exception (60_exceptions.md R296, R301, R302); `State.resetTo` is the one transfer of the whole block that
several causes share. -/

namespace Sys2Proof.Machine

/-! ## The output FIFO (R72 to R78) -/

/-- One byte written at OUT_TAIL (the loop body of R73). -/
def OutFifo.push (cap : Nat) (f : OutFifo) (b : Byte) : OutFifo :=
  { f with buf := f.buf.set f.tail b, tail := (f.tail + 1) % cap, count := f.count + 1 }

/-- The bytes of a packet written one after another (the loop of R73). -/
def OutFifo.pushAll (cap : Nat) (f : OutFifo) (p : List Byte) : OutFifo := p.foldl (OutFifo.push cap) f

/-- Whether a packet of `n` bytes is admitted: not Booting, not paused, and it fits (R73). -/
def admits (s : State) (n : Nat) : Bool :=
  !s.booting && !s.pause && decide (n ≤ s.cfg.outCap - s.out.count)

/-- `Enqueue(P)`: the packet is admitted whole or dropped whole; the caller learns nothing (R73). -/
def enqueue (p : List Byte) (s : State) : State :=
  { s with out := if admits s p.length then s.out.pushAll s.cfg.outCap p else s.out }

/-- `EnqueueDelayed(delay, P)`: under DELAY_POLICY = Immediate the delay has no effect (R75, D2). -/
def enqueueDelayed (_delay : Nat) (p : List Byte) (s : State) : State :=
  match s.cfg.delayPolicy with
  | .immediate => enqueue p s

/-- The byte at OUT_HEAD. In states no run reaches, where OUT_HEAD is past OUTBUF, it reads 0 (log 16). -/
def OutFifo.front (f : OutFifo) : Byte := f.buf.getD f.head 0

/-- The FIFO after its oldest byte is taken (R76). -/
def OutFifo.pop (cap : Nat) (f : OutFifo) : OutFifo :=
  { f with head := (f.head + 1) % cap, count := f.count - 1 }

/-! ## The absolute position (R145, R149) -/

/-- `ClampPos()` (R145). -/
def clampPos (s : State) : State :=
  { s with absX := umin16 s.absX s.maxX, absY := umin16 s.absY s.maxY }

/-- The absolute packet with edge mask `mask` (R149). -/
def absPacket (mask : BitVec 4) (x y : Word16) : List Byte :=
  [0xF7, mask.setWidth 8, hiByte x, loByte x, hiByte y, loByte y]

/-- `AbsReport()`: ABS_PREV_MASK advances even when the packet is dropped (R149). -/
def absReport (s : State) : State :=
  enqueue (absPacket (buttonLevels s.btnL s.btnR &&& s.absPrevMask) s.absX s.absY)
    { s with absPrevMask := buttonLevels s.btnL s.btnR ^^^ 0b1111 }

/-! ## Reset (R58, R317) -/

/-- Eight free bytes: CMDBUF after a reset event, which R58 calls unspecified (FREE VALUE, log 8). -/
def freeCmdBuf (n : Nat) : Vector Byte 8 :=
  #v[Config.freeByte n, Config.freeByte (n + 1), Config.freeByte (n + 2), Config.freeByte (n + 3),
    Config.freeByte (n + 4), Config.freeByte (n + 5), Config.freeByte (n + 6), Config.freeByte (n + 7)]

/-- A button mask after a reset: a warm reset keeps the physical source, a cold one clears both (R58, D27). -/
def resetButton (kind : ResetKind) (m : BitVec 2) : BitVec 2 :=
  match kind with
  | .cold => 0
  | .warm => withSrcJoy m false

/-- `Reset(kind)`: every register takes its value in the `kind` column of R58, BOOTING and TIMER_ARMED are set and
BootTimerArm is asserted. OUTBUF keeps its contents (R317; DEDUCED for a cold reset, log 9). The configuration and the
environment's schedule are no registers of the block. -/
def State.resetTo (kind : ResetKind) (s : State) : State :=
  { s with
    outputs := s.outputs ++ [.bootTimerArm]
    freeCount := s.freeCount + 8
    cmdBuf := freeCmdBuf s.freeCount
    cmdLen := 0
    out := { s.out with head := 0, tail := 0, count := 0 }
    pause := false
    mmode := .relative
    action := s.cfg.resetValues.action
    absX := 0
    absY := 0
    maxX := s.cfg.resetValues.maxX
    maxY := s.cfg.resetValues.maxY
    accX := 0
    accY := 0
    deltaX := 0
    deltaY := 0
    scaleX := s.cfg.resetValues.scaleX
    scaleY := s.cfg.resetValues.scaleY
    thrX := s.cfg.resetValues.thrX
    thrY := s.cfg.resetValues.thrY
    kcX := s.cfg.resetValues.kcX
    kcY := s.cfg.resetValues.kcY
    ysign := s.cfg.resetValues.ysign
    btnL := resetButton kind s.btnL
    btnR := resetButton kind s.btnR
    btnLPrev := 0
    btnRPrev := 0
    absPrevMask := absMaskSeed
    jmode := .auto
    jcur0 := 0
    jcur1 := 0
    jprev0 := 0
    jprev1 := 0
    jrate := 1
    keyState := Vector.replicate 128 false
    booting := true
    mdis := false
    jdis := false
    both := false
    medr := false
    timerArmed := true
    clock := match kind with
      | .cold => List.replicate s.cfg.nClock 0
      | .warm => s.clock }

/-! ## The both-disabled quirk (R326) -/

/-- `BothDisabledQuirk()` (R326). -/
def bothDisabledQuirk (s : State) : State :=
  if s.booting && s.mdis && s.jdis then { s with mmode := .relative, jmode := .auto, both := true } else s

/-! ## Dispatch (R125) -/

/-- The dispatch of a command: PAUSE cleared first, the handler run to completion, CMDLEN cleared last (R121, R125).
Every command's meaning is its whole dispatch (log 13). -/
def dispatch (handler : State → State) (s : State) : Host.Outcome State Fault Refusal :=
  .next { handler { s with pause := false } with cmdLen := 0 }

end Sys2Proof.Machine
end

