-- ==== Sys2Proof/Machine/InputEvents.lean ====
section
/-! DEFINITION. The events that are neither a host byte nor a tick: keys and mouse input (45_joystick_key_engine.md R281 to
R284), the boot timer and the cold reset (70_reset_and_hazards.md R316, R322), the transmitter (20_memory.md R76).

An event that is not enabled does not happen (60_exceptions.md R299, R301): the block keeps its state (DESIGN CHOICE, safe, log 3). -/

namespace Sys2Proof.Machine

/-- A key byte: the code, with bit 7 set on a release (R281, R282). -/
def keyByte (code : BitVec 7) (isPressed : Bool) : Byte :=
  code.setWidth 8 ||| (if isPressed then 0x00 else 0x80)

/-- `KeyTransition(code, pressed)`: KEYSTATE in every mode, the byte unless JMODE is Monitoring (R281). -/
def onKeyTransition (code : BitVec 7) (isPressed : Bool) (s : State) : State :=
  let t := { s with keyState := s.keyState.set code.toNat isPressed code.isLt }
  match s.jmode with
  | .monitoring => t
  | .off | .auto => enqueue [keyByte code isPressed] t

/-- `MouseMotion(dx, dy)`: the sum wraps at 32 bits (R283). -/
def onMouseMotion (dx dy : Word16) (s : State) : State :=
  { s with accX := s32 (sext32 s.accX + sext16 dx), accY := s32 (sext32 s.accY + sext16 dy) }

/-- `MouseButtons(l, r)`: the physical source bits only (R284). -/
def onMouseButtons (l r : Bool) (s : State) : State :=
  { s with btnL := withSrcMouse s.btnL l, btnR := withSrcMouse s.btnR r }

/-- `BootTimerExpire`: BOOTING is cleared before the boot byte is offered, so the byte is not suppressed (R322). -/
def onBootTimerExpire (s : State) : State :=
  if s.timerArmed then
    enqueueDelayed Config.bootDelay [s.cfg.bootByte] { s with timerArmed := false, booting := false, medr := false }
  else s

/-- `OutPop`: the oldest byte leaves, whatever PAUSE and BOOTING hold (R76). The byte is the port's output (log 4). -/
def onOutPop (s : State) : State :=
  if s.out.count > 0 then
    { s with out := s.out.pop s.cfg.outCap, outputs := s.outputs ++ [.byte s.out.front] }
  else s

/-- `ColdReset` (R316). -/
def onColdReset (s : State) : State := s.resetTo .cold

end Sys2Proof.Machine
end

