-- ==== Sys2Proof/Machine/ControlCommands.lean ====
section
/-! DEFINITION. The control and joystick commands 0x80 and 0x11 to 0x1A (42_control_joystick_commands.md). Each runs inside the
dispatch of R125 (R171). -/

namespace Sys2Proof.Machine

/-- RESET: a warm reset when the key is 0x01, else ignored (R172, R318). -/
def execReset (k : Byte) (s : State) : Host.Outcome State Fault Refusal :=
  dispatch (fun s => if k = 0x01 then s.resetTo .warm else s) s

/-- RESUME: no body; the dispatch has cleared PAUSE (R173). -/
def execResume (s : State) : Host.Outcome State Fault Refusal :=
  dispatch (fun s => s) s

/-- DISABLE_MOUSE: while Booting it sets MDIS and evaluates the quirk (R174, R325, R326). -/
def execDisableMouse (s : State) : Host.Outcome State Fault Refusal :=
  dispatch (fun s =>
    if s.booting then bothDisabledQuirk { s with mmode := .off, mdis := true } else { s with mmode := .off }) s

/-- PAUSE: ignored while Booting (R175). -/
def execPause (s : State) : Host.Outcome State Fault Refusal :=
  dispatch (fun s => if s.booting then s else { s with pause := true }) s

/-- SET_JOY_AUTO, with the override of R328 in both phases (R176). -/
def execSetJoyAuto (s : State) : Host.Outcome State Fault Refusal :=
  dispatch (fun s => { s with jmode := .auto, mmode := if s.medr || s.mdis then .relative else .off }) s

/-- SET_JOY_OFF: it never sets JDIS (R177, R325). -/
def execSetJoyOff (s : State) : Host.Outcome State Fault Refusal :=
  dispatch (fun s => { s with jmode := .off }) s

/-- INTERROGATE_JOY: the values of the last poll, on the delayed path (R178). -/
def execInterrogateJoy (s : State) : Host.Outcome State Fault Refusal :=
  dispatch (fun s => enqueueDelayed (Config.responseDelay 0x16) [0xFD, s.jcur0, s.jcur1] s) s

/-- SET_JOY_MONITOR: rate 0 is taken as 1 (R98, R179). -/
def execSetJoyMonitor (r : Byte) (s : State) : Host.Outcome State Fault Refusal :=
  dispatch (fun s => { s with jmode := .monitoring, jrate := if r = 0 then 1 else r }) s

/-- NOP_18: no body (R180). -/
def execNop18 (s : State) : Host.Outcome State Fault Refusal :=
  dispatch (fun s => s) s

/-- NOP_19: its six parameters are ignored (R181). -/
def execNop19 (_p1 _p2 _p3 _p4 _p5 _p6 : Byte) (s : State) : Host.Outcome State Fault Refusal :=
  dispatch (fun s => s) s

/-- DISABLE_JOY: while Booting it sets JDIS and evaluates the quirk (R182, R325, R326). -/
def execDisableJoy (s : State) : Host.Outcome State Fault Refusal :=
  dispatch (fun s =>
    if s.booting then bothDisabledQuirk { s with jmode := .off, jdis := true } else { s with jmode := .off }) s

end Sys2Proof.Machine
end

