-- ==== Sys2Proof/Machine/MouseCommands.lean ====
section
/-! DEFINITION. The mouse commands 0x07 to 0x10 (41_mouse_commands.md). Each runs inside the dispatch of R125 (R141). -/

namespace Sys2Proof.Machine

/-- SET_MOUSE_ACTION: `ACTION <- a[2:0]` (R142). -/
def execSetMouseAction (a : Byte) (s : State) : Host.Outcome State Fault Refusal :=
  dispatch (fun s => { s with action := a.extractLsb' 0 3 }) s

/-- SET_REL_MOUSE: remembered in MEDR while Booting (R143, R327). -/
def execSetRelMouse (s : State) : Host.Outcome State Fault Refusal :=
  dispatch (fun s => { s with mmode := .relative, medr := if s.booting then true else s.medr }) s

/-- SET_ABS_MOUSE: the position is clamped to the new maxima (R144). -/
def execSetAbsMouse (maxX maxY : Word16) (s : State) : Host.Outcome State Fault Refusal :=
  dispatch (fun s => clampPos { s with mmode := .absolute, maxX := maxX, maxY := maxY }) s

/-- SET_KEYCODE_MOUSE (R146). -/
def execSetKeycodeMouse (kx ky : Byte) (s : State) : Host.Outcome State Fault Refusal :=
  dispatch (fun s => { s with mmode := .cursorKey, kcX := kx, kcY := ky }) s

/-- SET_THRESHOLD (R147). -/
def execSetThreshold (tx ty : Byte) (s : State) : Host.Outcome State Fault Refusal :=
  dispatch (fun s => { s with thrX := tx, thrY := ty }) s

/-- SET_SCALE (R148). -/
def execSetScale (sx sy : Byte) (s : State) : Host.Outcome State Fault Refusal :=
  dispatch (fun s => { s with scaleX := sx, scaleY := sy }) s

/-- INTERROGATE_MOUSE, in every mouse mode (R150). -/
def execInterrogateMouse (s : State) : Host.Outcome State Fault Refusal :=
  dispatch absReport s

/-- LOAD_MOUSE_POS: the filler is ignored, the position is clamped to the maxima (R151). -/
def execLoadMousePos (_filler : Byte) (x y : Word16) (s : State) : Host.Outcome State Fault Refusal :=
  dispatch (fun s => clampPos { s with absX := x, absY := y }) s

/-- SET_YSIGN_POS: sign +1 (R152). -/
def execSetYsignPos (s : State) : Host.Outcome State Fault Refusal :=
  dispatch (fun s => { s with ysign := false }) s

/-- SET_YSIGN_NEG: sign −1 (R153). -/
def execSetYsignNeg (s : State) : Host.Outcome State Fault Refusal :=
  dispatch (fun s => { s with ysign := true }) s

end Sys2Proof.Machine
end

