-- ==== Sys2Proof/Machine/ReportCommands.lean ====
section
/-! DEFINITION. The report commands 0x87 to 0x9A (43_report_commands.md). The frames are general knowledge by the spec's own
marks (GK3, D24, D25; PRESUMED, unsafe, log 18). -/

namespace Sys2Proof.Machine

/-- `[0xF6, sub, d1, d2, d3, d4, 0, 0]`: no layout uses the last two data bytes (R201). -/
def frame (sub d1 d2 d3 d4 : Byte) : List Byte := [0xF6, sub, d1, d2, d3, d4, 0, 0]

/-- The offer of a report command: the first REPORT_LEN(c) bytes of the frame, on the delayed path (R201, R202). -/
def offerReport (c : Byte) (len : ReportLen) (f : List Byte) (s : State) : State :=
  enqueueDelayed (Config.responseDelay c) (f.take len.bytes) s

/-- `MouseModeFrame()` (R203). -/
def mouseModeFrame (s : State) : List Byte :=
  match s.mmode with
  | .relative => frame 0x08 0 0 0 0
  | .absolute => frame 0x09 (hiByte s.maxX) (loByte s.maxX) (hiByte s.maxY) (loByte s.maxY)
  | .cursorKey => frame 0x0A s.kcX s.kcY 0 0
  | .off => frame 0x12 0 0 0 0

/-- The frame of 0x8F and 0x90 (R210). -/
def ysignFrame (s : State) : List Byte := frame (if s.ysign then 0x10 else 0x0F) 0 0 0 0

/-- The frame of 0x94, 0x95 and 0x99 (R213). -/
def joyModeFrame (s : State) : List Byte :=
  match s.jmode with
  | .auto => frame 0x14 0 0 0 0
  | .off => frame 0x15 0 0 0 0
  | .monitoring => frame 0x17 s.jrate 0 0 0

/-- REPORT_ACTION (R204). -/
def execReportAction (s : State) : Host.Outcome State Fault Refusal :=
  dispatch (fun s => offerReport 0x87 s.cfg.reportLen.r87 (frame 0x07 (s.action.setWidth 8) 0 0 0) s) s

/-- REPORT_MOUSE_MODE_88 (R205). -/
def execReportMouseMode88 (s : State) : Host.Outcome State Fault Refusal :=
  dispatch (fun s => offerReport 0x88 s.cfg.reportLen.r88 (mouseModeFrame s) s) s

/-- REPORT_MOUSE_MODE_89 (R206). -/
def execReportMouseMode89 (s : State) : Host.Outcome State Fault Refusal :=
  dispatch (fun s => offerReport 0x89 s.cfg.reportLen.r89 (mouseModeFrame s) s) s

/-- REPORT_MOUSE_MODE_8A (R207). -/
def execReportMouseMode8A (s : State) : Host.Outcome State Fault Refusal :=
  dispatch (fun s => offerReport 0x8A s.cfg.reportLen.r8A (mouseModeFrame s) s) s

/-- REPORT_THRESHOLD (R208). -/
def execReportThreshold (s : State) : Host.Outcome State Fault Refusal :=
  dispatch (fun s => offerReport 0x8B s.cfg.reportLen.r8B (frame 0x0B s.thrX s.thrY 0 0) s) s

/-- REPORT_SCALE: a stored 0 is reported as 0 (R209). -/
def execReportScale (s : State) : Host.Outcome State Fault Refusal :=
  dispatch (fun s => offerReport 0x8C s.cfg.reportLen.r8C (frame 0x0C s.scaleX s.scaleY 0 0) s) s

/-- REPORT_YSIGN_8F (R210). -/
def execReportYsign8F (s : State) : Host.Outcome State Fault Refusal :=
  dispatch (fun s => offerReport 0x8F s.cfg.reportLen.r8F (ysignFrame s) s) s

/-- REPORT_YSIGN_90 (R211). -/
def execReportYsign90 (s : State) : Host.Outcome State Fault Refusal :=
  dispatch (fun s => offerReport 0x90 s.cfg.reportLen.r90 (ysignFrame s) s) s

/-- REPORT_MOUSE_AVAIL: read from MMODE, not from MDIS (R212). -/
def execReportMouseAvail (s : State) : Host.Outcome State Fault Refusal :=
  dispatch (fun s => offerReport 0x92 s.cfg.reportLen.r92 (frame (if s.mmode = .off then 0x12 else 0x00) 0 0 0 0) s) s

/-- REPORT_JOY_MODE_94 (R213). -/
def execReportJoyMode94 (s : State) : Host.Outcome State Fault Refusal :=
  dispatch (fun s => offerReport 0x94 s.cfg.reportLen.r94 (joyModeFrame s) s) s

/-- REPORT_JOY_MODE_95 (R214). -/
def execReportJoyMode95 (s : State) : Host.Outcome State Fault Refusal :=
  dispatch (fun s => offerReport 0x95 s.cfg.reportLen.r95 (joyModeFrame s) s) s

/-- REPORT_JOY_MODE_99 (R215). -/
def execReportJoyMode99 (s : State) : Host.Outcome State Fault Refusal :=
  dispatch (fun s => offerReport 0x99 s.cfg.reportLen.r99 (joyModeFrame s) s) s

/-- REPORT_JOY_AVAIL: read from JMODE, not from JDIS (R216). -/
def execReportJoyAvail (s : State) : Host.Outcome State Fault Refusal :=
  dispatch (fun s => offerReport 0x9A s.cfg.reportLen.r9A (frame (if s.jmode = .off then 0x1A else 0x00) 0 0 0 0) s) s

end Sys2Proof.Machine
end

