-- ==== Sys2Proof/Machine/Dispatch.lean ====
section
/-! DEFINITION. The meaning of every command, one arm per constructor of Instr. -/

namespace Sys2Proof.Machine

def exec (i : Instr) (s : State) : Host.Outcome State Fault Refusal :=
  match i with
  | .setMouseAction a => Sys2Proof.Machine.execSetMouseAction a s
  | .setRelMouse => Sys2Proof.Machine.execSetRelMouse s
  | .setAbsMouse maxX maxY => Sys2Proof.Machine.execSetAbsMouse maxX maxY s
  | .setKeycodeMouse kx ky => Sys2Proof.Machine.execSetKeycodeMouse kx ky s
  | .setThreshold tx ty => Sys2Proof.Machine.execSetThreshold tx ty s
  | .setScale sx sy => Sys2Proof.Machine.execSetScale sx sy s
  | .interrogateMouse => Sys2Proof.Machine.execInterrogateMouse s
  | .loadMousePos filler x y => Sys2Proof.Machine.execLoadMousePos filler x y s
  | .setYsignPos => Sys2Proof.Machine.execSetYsignPos s
  | .setYsignNeg => Sys2Proof.Machine.execSetYsignNeg s
  | .resume => Sys2Proof.Machine.execResume s
  | .disableMouse => Sys2Proof.Machine.execDisableMouse s
  | .pause => Sys2Proof.Machine.execPause s
  | .setJoyAuto => Sys2Proof.Machine.execSetJoyAuto s
  | .setJoyOff => Sys2Proof.Machine.execSetJoyOff s
  | .interrogateJoy => Sys2Proof.Machine.execInterrogateJoy s
  | .setJoyMonitor r => Sys2Proof.Machine.execSetJoyMonitor r s
  | .nop18 => Sys2Proof.Machine.execNop18 s
  | .nop19 p1 p2 p3 p4 p5 p6 => Sys2Proof.Machine.execNop19 p1 p2 p3 p4 p5 p6 s
  | .disableJoy => Sys2Proof.Machine.execDisableJoy s
  | .reset k => Sys2Proof.Machine.execReset k s
  | .reportAction => Sys2Proof.Machine.execReportAction s
  | .reportMouseMode88 => Sys2Proof.Machine.execReportMouseMode88 s
  | .reportMouseMode89 => Sys2Proof.Machine.execReportMouseMode89 s
  | .reportMouseMode8A => Sys2Proof.Machine.execReportMouseMode8A s
  | .reportThreshold => Sys2Proof.Machine.execReportThreshold s
  | .reportScale => Sys2Proof.Machine.execReportScale s
  | .reportYsign8F => Sys2Proof.Machine.execReportYsign8F s
  | .reportYsign90 => Sys2Proof.Machine.execReportYsign90 s
  | .reportMouseAvail => Sys2Proof.Machine.execReportMouseAvail s
  | .reportJoyMode94 => Sys2Proof.Machine.execReportJoyMode94 s
  | .reportJoyMode95 => Sys2Proof.Machine.execReportJoyMode95 s
  | .reportJoyMode99 => Sys2Proof.Machine.execReportJoyMode99 s
  | .reportJoyAvail => Sys2Proof.Machine.execReportJoyAvail s

end Sys2Proof.Machine
end

