-- ==== Sys2Proof/Machine/Interpreter.lean ====
section
/-! DEFINITION. The command interpreter (40_command_interpreter.md R121): byte intake, match, wait, dispatch, discard. -/

namespace Sys2Proof.Machine

/-- The valid bytes of the command buffer, `CMDBUF[0 .. CMDLEN-1]` (R23). -/
def State.cmdBytes (s : State) : List Byte := s.cmdBuf.toList.take s.cmdLen.val

/-- `CMDBUF[CMDLEN] <- b; CMDLEN <- CMDLEN + 1`; a byte that arrives at a full buffer is dropped (R81, R122, R128). -/
def appendHostByte (b : Byte) (s : State) : State :=
  if h : s.cmdLen.val < 8 then
    { s with cmdBuf := s.cmdBuf.set s.cmdLen.val b h, cmdLen := ⟨s.cmdLen.val + 1, Nat.succ_lt_succ h⟩ }
  else s

/-- `HostByte(b)` (R121): at a full buffer nothing happens; else the byte is appended, and the buffer's front is a command
to dispatch (R125), one to wait for (R124), or an unknown byte to discard (R126). -/
def onHostByte (b : Byte) (s : State) : Host.Outcome State Fault Refusal :=
  if s.cmdLen.val = cmdCap then .next s
  else
    let t := appendHostByte b s
    match decode t.cmdBytes with
    | .command i _ => exec i t
    | .wait _ => .next t
    | .unknown _ => .next { t with cmdLen := 0 }
    | .empty => .next t

end Sys2Proof.Machine
end

