-- ==== Sys2Proof/Machine/JoyEngine.lean ====
section
/-! DEFINITION. The joystick half of the tick (45_joystick_key_engine.md R271 to R280). -/

namespace Sys2Proof.Machine

/-- `JoyPoll(j0raw, j1raw)`, with the aliasing rule (R271, D21). -/
def joyPoll (j0raw j1raw : Byte) (s : State) : State :=
  match s.mmode with
  | .off =>
    { s with
      jcur0 := joyLines j0raw ||| (joyLines j1raw &&& 0x80)
      jcur1 := joyLines j1raw
      btnR := withSrcJoy s.btnR false }
  | .relative | .absolute | .cursorKey =>
    { s with
      jcur0 := joyLines j0raw
      jcur1 := joyLines j1raw &&& 0x0F
      btnR := withSrcJoy s.btnR (fire (joyLines j1raw)) }

/-- Stick 0's turn in `JoyAutoReport()`: JPREV advances even when the packet is dropped (R274, R275). -/
def joyAutoStick0 (s : State) : State :=
  if s.jcur0 != s.jprev0 then { enqueue [0xFE, s.jcur0] s with jprev0 := s.jcur0 } else s

/-- Stick 1's turn in `JoyAutoReport()` (R274, R275). -/
def joyAutoStick1 (s : State) : State :=
  if s.jcur1 != s.jprev1 then { enqueue [0xFF, s.jcur1] s with jprev1 := s.jcur1 } else s

/-- `JoyAutoReport()`: stick 0 before stick 1 (R274, D9). -/
def joyAutoReport (s : State) : State := joyAutoStick1 (joyAutoStick0 s)

/-- The two bytes of a monitoring packet, from the raw lines: `(fire0 << 1) | fire1` and `(dir0 << 4) | dir1` (R276, D23). -/
def monitorPacket (j0raw j1raw : Byte) : List Byte :=
  [(BitVec.ofBool (fire j0raw) ++ BitVec.ofBool (fire j1raw)).setWidth 8, dir j0raw ++ dir j1raw]

/-- `MonitorReport(j0raw, j1raw)` (R276). -/
def monitorReport (j0raw j1raw : Byte) (s : State) : State := enqueue (monitorPacket j0raw j1raw) s

end Sys2Proof.Machine
end

