-- ==== Sys2Proof/Machine/MouseEngine.lean ====
section
/-! DEFINITION. The tick and the mouse report engine (44_mouse_report_engine.md R231 to R248). -/

namespace Sys2Proof.Machine

/-! ## Motion and position -/

/-- `TakeMotion()`: ACC is cleared and added to the residual DELTA (R233). -/
def takeMotion (s : State) : State :=
  { s with
    accX := 0
    accY := 0
    deltaX := s32 (sext32 s.deltaX + sext32 s.accX)
    deltaY := s32 (sext32 s.deltaY + sext32 s.accY) }

/-- `UpdatePosition(nx, ny)`: exact arithmetic, then the clamp; the Y sign applies at every scale (R234, D17). -/
def updatePosition (nx ny : Int) (s : State) : State :=
  { s with
    absX := u16 (clamp (zext16 s.absX + nx * scaleFactor s.scaleX) 0 (zext16 s.maxX))
    absY := u16 (clamp (zext16 s.absY + ny * scaleFactor s.scaleY * ysignFactor s.ysign) 0 (zext16 s.maxY)) }

/-- DELTA cleared (R236, R239, R247). -/
def clearDelta (s : State) : State := { s with deltaX := 0, deltaY := 0 }

/-- The PREV registers take the current button masks (R236, R241, R246). -/
def latchButtons (s : State) : State := { s with btnLPrev := s.btnL, btnRPrev := s.btnR }

/-! ## Buttons as keys -/

/-- A button's key byte: the press code, or the code OR 0x80 on a release (R236, D11). -/
def buttonKey (code : Byte) (isPressed : Bool) : Byte := if isPressed then code else code ||| 0x80

/-- The left button's key code (R236; PRESUMED by the spec, GK10; log 18). -/
def leftKey : Byte := 0x74

/-- The right button's key code (R236; PRESUMED by the spec, GK10; log 18). -/
def rightKey : Byte := 0x75

/-- The left button's key byte, offered on a left edge. -/
def offerLeftKey (s : State) : State :=
  if edgeL s then enqueue [buttonKey leftKey (pressed s.btnL)] s else s

/-- The right button's key byte, offered on a right edge. -/
def offerRightKey (s : State) : State :=
  if edgeR s then enqueue [buttonKey rightKey (pressed s.btnR)] s else s

/-- The button-as-keys path of `MouseReport()`, part 1 (R236). -/
def keysReport (s : State) : State := clearDelta (latchButtons (offerRightKey (offerLeftKey s)))

/-! ## The forced absolute report -/

/-- `MouseReport()`, part 2: at most one absolute report a tick (R237, D13). -/
def forcedAbsReport (s : State) : State :=
  if (actPressAbs s.action && pressEdge s) || (actReleaseAbs s.action && releaseEdge s) then absReport s else s

/-! ## Relative mode -/

/-- A residual clamped to what one packet carries (R241). -/
def relClamp (d : Word32) : Int := clamp (sext32 d) (-128) 127

/-- A relative packet is owed (R241): an axis exceeds its threshold or a button has an edge. -/
def relDue (s : State) : Bool :=
  exceeds s.cfg.threshStrict (relClamp s.deltaX) (zext8 s.thrX) ||
    exceeds s.cfg.threshStrict (relClamp s.deltaY) (zext8 s.thrY) || edgeL s || edgeR s

/-- The relative packet (R241). -/
def relPacket (s : State) : List Byte :=
  [0xF8 ||| relButtons s.btnL s.btnR, u8 (relClamp s.deltaX), u8 (relClamp s.deltaY * ysignFactor s.ysign)]

/-- `RelStep()`: `none` where it answers false. DELTA shrinks and PREV advances even when the packet is dropped (R241, D8). -/
def relStep (s : State) : Option State :=
  if relDue s then
    some (latchButtons { enqueue (relPacket s) s with
      deltaX := s32 (sext32 s.deltaX - relClamp s.deltaX)
      deltaY := s32 (sext32 s.deltaY - relClamp s.deltaY) })
  else none

/-- `while RelStep(): skip`, on fuel (R242, log 17). -/
def relLoop : Nat → State → State
  | 0, s => s
  | fuel + 1, s =>
    match relStep s with
    | none => s
    | some t => relLoop fuel t

/-- Enough fuel for the loop to end by itself: R248's bound on the packets one tick owes, and one more test. -/
def relFuel (s : State) : Nat := max (sext32 s.deltaX).natAbs (sext32 s.deltaY).natAbs / 127 + 2

/-- `RelReport()` (R242). -/
def relReport (s : State) : State :=
  match s.cfg.relLoop with
  | .perTick => (relStep s).getD s
  | .untilConverged => relLoop (relFuel s) s

/-! ## Cursor-key mode -/

/-- A cursor key's press code and its release code (R243). -/
def keyStroke (code : Byte) : List Byte := [code, code ||| 0x80]

/-- The X half of `CursorStep()`: 0x4B left, 0x4D right (R243; PRESUMED by the spec, GK11; log 18). -/
def cursorStepX (s : State) : State :=
  if stepsBack (sext32 s.deltaX) (zext8 s.kcX) then
    { enqueue (keyStroke 0x4B) s with deltaX := s32 (sext32 s.deltaX + zext8 s.kcX) }
  else if stepsForward (sext32 s.deltaX) (zext8 s.kcX) then
    { enqueue (keyStroke 0x4D) s with deltaX := s32 (sext32 s.deltaX - zext8 s.kcX) }
  else s

/-- The Y half of `CursorStep()`: 0x48 up, 0x50 down; YSIGN is not applied (R243, D20; GK11; log 18). -/
def cursorStepY (s : State) : State :=
  if stepsBack (sext32 s.deltaY) (zext8 s.kcY) then
    { enqueue (keyStroke 0x48) s with deltaY := s32 (sext32 s.deltaY + zext8 s.kcY) }
  else if stepsForward (sext32 s.deltaY) (zext8 s.kcY) then
    { enqueue (keyStroke 0x50) s with deltaY := s32 (sext32 s.deltaY - zext8 s.kcY) }
  else s

/-- The left half of `CursorButtons()` (R245). -/
def cursorButtonL (s : State) : State :=
  if edgeL s then { enqueue [buttonKey leftKey (pressed s.btnL)] s with btnLPrev := s.btnL } else s

/-- The right half of `CursorButtons()` (R245). -/
def cursorButtonR (s : State) : State :=
  if edgeR s then { enqueue [buttonKey rightKey (pressed s.btnR)] s with btnRPrev := s.btnR } else s

/-- `CursorStep()`: X, then Y, then the buttons (R243, R245). -/
def cursorStep (s : State) : State := cursorButtonR (cursorButtonL (cursorStepY (cursorStepX s)))

/-- `while steps < n and CursorDue(): CursorStep()` (R244). -/
def cursorLoop : Nat → State → State
  | 0, s => s
  | n + 1, s => if cursorDue s then cursorLoop n (cursorStep s) else s

/-- `CursorReport()`: at most CURSOR_MAX_STEPS steps (R244). -/
def cursorReport (s : State) : State := cursorLoop cursorMaxSteps s

/-! ## The mouse half of the tick -/

/-- The mode step of `MouseReport()`, part 3 (R238, R239). -/
def modeStep (s : State) : State :=
  match s.mmode with
  | .relative => relReport s
  | .cursorKey => cursorReport s
  | .absolute => clearDelta s
  | .off => clearDelta s

/-- `MouseReport()` (R236 to R238, R246). -/
def mouseReport (s : State) : State :=
  if actKeys s.action then keysReport s else latchButtons (modeStep (forcedAbsReport s))

/-- `MonitorTick(j0raw, j1raw)` (R247). -/
def monitorTick (j0raw j1raw : Byte) (s : State) : State := monitorReport j0raw j1raw (clearDelta s)

/-! ## The tick -/

/-- What every tick does first: the poll, the motion, the position (R231 to R234). The position moves by the new motion
only, which is ACC as the tick finds it. -/
def tickMotion (j0raw j1raw : Byte) (s : State) : State :=
  updatePosition (sext32 s.accX) (sext32 s.accY) (takeMotion (joyPoll j0raw j1raw s))

/-- `Tick(j0raw, j1raw)` (R231). -/
def onTick (j0raw j1raw : Byte) (s : State) : State :=
  let t := tickMotion j0raw j1raw s
  match t.jmode with
  | .monitoring => monitorTick j0raw j1raw t
  | .auto => joyAutoReport (mouseReport t)
  | .off => mouseReport t

end Sys2Proof.Machine
end

