-- ==== Sys2Proof/Machine/Events.lean ====
section
/-! DEFINITION. One event, one atomic step (00_scope.md R7, R8; 60_exceptions.md R298). -/

namespace Sys2Proof.Machine

/-- The step of each event. -/
def takeEvent (e : Event) (s : State) : Host.Outcome State Fault Refusal :=
  match e with
  | .hostByte b => onHostByte b s
  | .tick j0raw j1raw => .next (onTick j0raw j1raw s)
  | .keyTransition code isPressed => .next (onKeyTransition code isPressed s)
  | .mouseMotion dx dy => .next (onMouseMotion dx dy s)
  | .mouseButtons l r => .next (onMouseButtons l r s)
  | .bootTimerExpire => .next (onBootTimerExpire s)
  | .outPop => .next (onOutPop s)
  | .coldReset => .next (onColdReset s)

/-- The next scheduled event is taken; with none scheduled the block is idle and keeps all its state
(60_exceptions.md R310; DEDUCED, safe, log 2). -/
def takeNext (s : State) : Host.Outcome State Fault Refusal :=
  match s.inputs with
  | [] => .next s
  | e :: rest => takeEvent e { s with inputs := rest }

/-- The bytes of a command placed where the interpreter looks for them: all but the last in CMDBUF, CMDLEN their number, the
last one the next event. A first byte that starts no command, or an empty list, leaves CMDLEN 0 (log 20). -/
def placeCommand (bytes : List Byte) (s : State) : State :=
  match bytes with
  | [] => s
  | c :: _ =>
    let n := min ((commandLength c).getD 1) 7
    { s with
      cmdBuf := Vector.ofFn fun k => if k.val < n - 1 then bytes.getD k.val 0 else s.cmdBuf[k]
      cmdLen := Fin.ofNat 9 (n - 1)
      inputs := .hostByte (bytes.getD (n - 1) 0) :: s.inputs }

end Sys2Proof.Machine
end

