-- ==== Sys2Proof/Machine/Step.lean ====
section
/-! DEFINITION. One step of the machine, and where a test places an instruction. -/

namespace Sys2Proof.Machine

/-- One step: a configuration the spec says to refuse is refused (93_implementation_defined.md U7, log 6), else the next
scheduled event is taken. -/
def step (s : State) : Host.Outcome State Fault Refusal :=
  if s.cfg.wf then takeNext s else .refused .badConfiguration

/-- `s` with the instruction whose table bits are `w` placed so that the next step fetches and runs it (log 20). -/
def State.withFetchWord (s : State) (nbits w : Nat) : State := placeCommand (tableBytes nbits w) s

end Sys2Proof.Machine
end

