-- ==== Sys2Proof/Safety.lean ====
section
/-! DEFINITION. The terms claims are made in: the bytes waiting in the FIFO, what offering a packet does, the invariant of
10_state.md R50, and what the wire cannot tell apart (R54). -/

namespace Sys2Proof.Machine

/-! ## The FIFO as a queue (R24, R72) -/

/-- The unread bytes of a FIFO of capacity `cap`, oldest first. -/
def OutFifo.contents (cap : Nat) (f : OutFifo) : List Byte :=
  (List.range f.count).map fun k => f.buf.getD ((f.head + k) % cap) 0

/-- The unread bytes of the block's FIFO, oldest first: the live region of R54. -/
def State.unread (s : State) : List Byte := s.out.contents s.cfg.outCap

/-- A FIFO in the form R24 and R50 give it. -/
structure FifoWf (cap : Nat) (f : OutFifo) : Prop where
  length : f.buf.length = cap
  head : f.head < cap
  count : f.count ≤ cap
  tail : f.tail = (f.head + f.count) % cap

/-- The conditions under which R73 admits a packet of `n` bytes. -/
def Room (s : State) (n : Nat) : Prop :=
  s.booting = false ∧ s.pause = false ∧ s.out.count + n ≤ s.cfg.outCap

/-- `t` is `s` with packet `p` appended whole to the FIFO and nothing else changed: the bytes go to the slots
`(OUT_TAIL + k) mod OUT_CAP`, every other slot of OUTBUF keeps its byte (R73, R74). -/
structure Appends (s t : State) (p : List Byte) : Prop where
  rest : t = { s with out := t.out }
  head : t.out.head = s.out.head
  tail : t.out.tail = (s.out.tail + p.length) % s.cfg.outCap
  count : t.out.count = s.out.count + p.length
  unread : t.unread = s.unread ++ p
  slots : ∀ i, (∀ k, k < p.length → i ≠ (s.out.tail + k) % s.cfg.outCap) → t.out.buf[i]? = s.out.buf[i]?

/-- `t` is `s` after packet `p` was offered: appended whole where there is room, otherwise nothing at all (R73). -/
def Offers (s t : State) (p : List Byte) : Prop :=
  (Room s p.length → Appends s t p) ∧ (¬ Room s p.length → t = s)

/-- What the dispatch of a command does around its handler: PAUSE and CMDLEN cleared (R125). -/
def State.dispatched (s : State) : State := { s with pause := false, cmdLen := 0 }

/-! ## The invariant -/

/-- The invariant of the block. The first seven fields are R50's, with the configuration U7 asks for. The others say what
R35, R61, R47, R49 and R323 say of the registers between steps. -/
structure Inv (s : State) : Prop where
  cfg : s.cfg.wf = true
  /-- R50.1 -/
  fifo : FifoWf s.cfg.outCap s.out
  /-- R50.2 -/
  cmdLen : s.cmdLen.val ≤ 6
  /-- R50.3 -/
  pending : 1 ≤ s.cmdLen.val → ∃ n, commandLength s.cmdBuf[0] = some n ∧ s.cmdLen.val < n
  /-- R50.4 -/
  absX : s.absX.toNat ≤ s.maxX.toNat
  /-- R50.4 -/
  absY : s.absY.toNat ≤ s.maxY.toNat
  /-- R50.5 -/
  jrate : 1 ≤ s.jrate.toNat
  /-- R50.6, and its converse: the two are set by every reset and cleared by the expiry (R48, R322) -/
  timer : s.timerArmed = s.booting
  /-- R323: nothing waits in the FIFO while Booting -/
  bootEmpty : s.booting = true → s.out.count = 0
  /-- R323: PAUSE is 0 while Booting -/
  bootUnpaused : s.booting = true → s.pause = false
  /-- R47: MEDR is set only while Booting and cleared by the expiry -/
  medr : s.medr = true → s.booting = true
  /-- R35: only BTN_R ever has SRC_JOY set -/
  btnL : s.btnL.getLsbD 1 = false
  /-- R61: bits 6:4 of the polled masks are 0 -/
  jcur0 : s.jcur0 &&& 0x70 = 0
  jcur1 : s.jcur1 &&& 0x70 = 0
  jprev0 : s.jprev0 &&& 0x70 = 0
  jprev1 : s.jprev1 &&& 0x70 = 0
  /-- R49: N_CLOCK clock bytes -/
  clock : s.clock.length = s.cfg.nClock

/-! ## What the wire cannot tell apart -/

/-- `s` and `t` differ at most in what R54 calls unobservable and in CMDBUF at and above CMDLEN (R23): KEYSTATE, CLOCK,
BOTH, and the slots of OUTBUF outside the live region. -/
structure WireEquiv (s t : State) : Prop where
  rest : t = { s with keyState := t.keyState, clock := t.clock, both := t.both, cmdBuf := t.cmdBuf,
                      out := { s.out with buf := t.out.buf } }
  size : t.out.buf.length = s.out.buf.length
  unread : t.unread = s.unread
  command : t.cmdBytes = s.cmdBytes

/-! ## What a step does, in the words of the access table (R52) -/

/-- A step that ends in a next state. -/
def Completes (o : Host.Outcome State Fault Refusal) : Prop := ∃ t, o = .next t

/-- The next scheduled event of `s` is `e`. -/
def Takes (s : State) (e : Event) : Prop := ∃ rest, s.inputs = e :: rest

/-- The next scheduled event of `s` is a tick. -/
def TakesTick (s : State) : Prop := ∃ j0raw j1raw, Takes s (.tick j0raw j1raw)

/-- The next step of `s` dispatches command `i`: a host byte arrives that completes it in the command buffer. In states no run
reaches, whose buffer is already at or past the command's length, this is the model's choice (log 14). -/
def Dispatches (s : State) (i : Instr) : Prop :=
  ∃ b more, Takes s (.hostByte b) ∧ s.cmdLen.val < 8 ∧ decode (appendHostByte b s).cmdBytes = .command i more

/-- The next step of `s` resets the block: a cold reset, or a well-formed RESET command (R316, R318). -/
def Resets (s : State) : Prop := Takes s .coldReset ∨ Dispatches s (.reset 0x01)

/-- Command `i` completes in `s`, and all it does beyond its dispatch is to offer the packet `p`. -/
def Responds (s : State) (i : Instr) (p : List Byte) : Prop :=
  ∃ t, exec i s = .next t ∧ Offers s.dispatched t p

end Sys2Proof.Machine
end

