-- ==== Sys2Proof/Certificates/Slice0/Obligations.lean ====
section
/-! DEFINITION. The statements for the provers. Each docstring names the rules of spec/ the statement formalises, and the
spec's decision (D<n>, GK<n>) or the log entry it rests on where the rule carries the spec's own mark. -/

open Sys2Proof Sys2Proof.Machine

/-! ## Invariants -/

/-- R50 and R319: the state after reset meets the invariant, under the default configuration and under every configuration
that is not refused. Rests on the model's power-on contents of OUTBUF only through their number (log 7). -/
def Obligations.ResetStateMeetsInvariant : Prop :=
  Inv State.reset ∧ ∀ c : Config, c.wf = true → Inv (State.initial c)

/-- R50 (a rule the spec derives), with R35, R47, R48, R61 and R323: every step from every state that meets the invariant
ends in a state that meets it. -/
def Obligations.EveryStepKeepsInvariant : Prop :=
  ∀ s t : State, Inv s → step s = .next t → Inv t

/-- R53, R54 and R23: KEYSTATE, CLOCK, BOTH, the slots of OUTBUF outside the live region and CMDBUF at and above CMDLEN
never reach the wire. Two states that meet the invariant and differ in nothing else take the same step: the same output
ports, and again states that differ in nothing else. -/
def Obligations.UnobservableStateNeverReachesTheWire : Prop :=
  ∀ s t s' : State, Inv s → Inv t → WireEquiv s t → step s = .next s' →
    ∃ t', step t = .next t' ∧ WireEquiv s' t'

/-! ## Encoding -/

/-- R96 to R98 and R108: decoding the bytes of a command gives back the command, every operand at every value, and leaves
the bytes that follow it. -/
def Obligations.DecodeUndoesEncode : Prop :=
  ∀ (i : Instr) (rest : List Byte), i.wf = true → decode (encode i ++ rest) = .command i rest

/-- R97 to R99: a decoded command encodes to the very bytes it was read from, the ignored ones included. -/
def Obligations.EncodeUndoesDecode : Prop :=
  ∀ (bytes rest : List Byte) (i : Instr), decode bytes = .command i rest → encode i ++ rest = bytes

/-- R115, R133, R172, R179, R181: words written out from the spec's encodings decode to their commands. -/
def Obligations.SpecExampleWordsDecode : Prop :=
  decode [0x09, 0x01, 0x40, 0x00, 0xC8] = .command (.setAbsMouse 0x0140 0x00C8) [] ∧
  decode [0x0E, 0x00, 0x00, 0x50, 0x00, 0x64] = .command (.loadMousePos 0x00 0x0050 0x0064) [] ∧
  decode [0x80, 0x01] = .command (.reset 0x01) [] ∧
  decode [0x17, 0x00] = .command (.setJoyMonitor 0x00) [] ∧
  decode [0x19, 0x08, 0x12, 0x13, 0x14, 0x15, 0x1A] = .command (.nop19 0x08 0x12 0x13 0x14 0x15 0x1A) [] ∧
  decode [0x0B, 0x12, 0x13] = .command (.setThreshold 0x12 0x13) [] ∧
  decode [0x8B] = .command .reportThreshold [] ∧
  decode [0x09, 0x01] = .wait 5 ∧
  decode [0x8D] = .unknown 0x8D

/-- R85: every 16-bit quantity of a command or a packet has its most significant byte first. The other bytes of the Absolute
mode report are R203's frame, general knowledge by the spec's mark (GK3, D24; PRESUMED, log 18). -/
def Obligations.WideFieldsAreBigEndian : Prop :=
  (∀ a b c d : Byte, ∃ x y : Word16, decode [0x09, a, b, c, d] = .command (.setAbsMouse x y) [] ∧
    x.toNat = a.toNat * 256 + b.toNat ∧ y.toNat = c.toNat * 256 + d.toNat) ∧
  (∀ f a b c d : Byte, ∃ x y : Word16, decode [0x0E, f, a, b, c, d] = .command (.loadMousePos f x y) [] ∧
    x.toNat = a.toNat * 256 + b.toNat ∧ y.toNat = c.toNat * 256 + d.toNat) ∧
  (∀ (m : BitVec 4) (x y : Word16), ∃ h e xh xl yh yl : Byte, absPacket m x y = [h, e, xh, xl, yh, yl] ∧
    x.toNat = xh.toNat * 256 + xl.toNat ∧ y.toNat = yh.toNat * 256 + yl.toNat) ∧
  (∀ s : State, s.mmode = .absolute → ∃ xh xl yh yl : Byte,
    mouseModeFrame s = [0xF6, 0x09, xh, xl, yh, yl, 0, 0] ∧
    s.maxX.toNat = xh.toNat * 256 + xl.toNat ∧ s.maxY.toNat = yh.toNat * 256 + yl.toNat) ∧
  be16 0x01 0x40 = 320 ∧ be16 0x00 0xC8 = 200

/-- R110 (the bytes it lists) and R108: a byte starts no command exactly when it is one of the 222 that R110 lists. -/
def Obligations.UnknownBytesAreThoseListed : Prop :=
  ∀ b : Byte, commandLength b = none ↔
    (b.toNat ≤ 0x06 ∨ (0x1B ≤ b.toNat ∧ b.toNat ≤ 0x7F) ∨ (0x81 ≤ b.toNat ∧ b.toNat ≤ 0x86) ∨ b = 0x8D ∨ b = 0x8E ∨
      b = 0x91 ∨ b = 0x93 ∨ (0x96 ≤ b.toNat ∧ b.toNat ≤ 0x98) ∨ 0x9B ≤ b.toNat)

/-- R123: lookup takes the first entry whose command byte is the buffer's first byte, or answers none; only that byte takes
part in the match; and, each byte having one entry, no order of the table would answer otherwise. -/
def Obligations.LookupIgnoresTableOrder : Prop :=
  (∀ c : Byte, (lookup c = none ∧ ∀ e ∈ commandTable, e.byte ≠ c) ∨
    ∃ before e after, commandTable = before ++ e :: after ∧ e.byte = c ∧ (∀ d ∈ before, d.byte ≠ c) ∧ lookup c = some e) ∧
  (∀ table : List CommandRow, table.Perm commandTable → ∀ c : Byte, (table.find? fun e => e.byte == c) = lookup c) ∧
  (∀ (c : Byte) (bytes : List Byte), decode (c :: bytes) = .unknown c ↔ lookup c = none)

/-! ## The command interpreter -/

/-- R7, R8, R310 and U7: a step takes the next scheduled event; with none it keeps the state (log 2). A configuration is
accepted exactly when OUT_CAP is at least 8 and a power of two. One with OUT_CAP below 8 is refused, as U7 says; one with a
greater OUT_CAP that is no power of two is refused too, which is the model's reading of U7 and D42 (DEDUCED, log 6). -/
def Obligations.StepTakesNextEvent : Prop :=
  (∀ (s : State) (e : Event) (rest : List Event), s.cfg.wf = true → s.inputs = e :: rest →
    step s = takeEvent e { s with inputs := rest }) ∧
  (∀ s : State, s.cfg.wf = true → s.inputs = [] → step s = .next s) ∧
  (∀ s : State, s.cfg.wf = false → step s = .refused .badConfiguration) ∧
  (∀ c : Config, c.wf = true ↔ 8 ≤ c.outCap ∧ ∃ k, c.outCap = 2 ^ k) ∧
  (∀ s : State, s.cfg.outCap < 8 → step s = .refused .badConfiguration) ∧
  (∀ s : State, 8 ≤ s.cfg.outCap → (∀ k, s.cfg.outCap ≠ 2 ^ k) → step s = .refused .badConfiguration)

/-- R121 (with the dispatch in exec, log 13): when the bytes in the command buffer, with the byte that arrives, start with a
well-formed command, the step is that command's meaning, on the state in which the byte is stored and counted. Where bytes
are left over (`more` not empty) the buffer was already at or past the command's length: no run reaches such a state, and
what happens there is the model's choice (DEDUCED, log 14). -/
def Obligations.StepRunsDecodedCommand : Prop :=
  ∀ (s : State) (b : Byte) (rest : List Event) (i : Instr) (more : List Byte) (h : s.cmdLen.val < 8),
    s.cfg.wf = true → s.inputs = .hostByte b :: rest → i.wf = true →
    decode ((s.cmdBuf.set s.cmdLen.val b h).toList.take (s.cmdLen.val + 1)) = .command i more →
    step s = exec i { s with inputs := rest, cmdBuf := s.cmdBuf.set s.cmdLen.val b h,
                             cmdLen := ⟨s.cmdLen.val + 1, Nat.succ_lt_succ h⟩ }

/-- R121 to R125, R127: a command sent byte by byte to an empty command buffer runs exactly once, with its own operands,
after its last byte, and no byte of it is taken for another command. The bytes stand in CMDBUF, the slots above keep theirs. -/
def Obligations.CommandSentByteByByteRunsOnce : Prop :=
  ∀ (s : State) (i : Instr) (rest : List Event),
    s.cfg.wf = true → s.cmdLen = 0 → s.inputs = (encode i).map Event.hostByte ++ rest →
    ∃ (buf : Vector Byte 8) (n : Fin 9), buf.toList = encode i ++ s.cmdBuf.toList.drop (encode i).length ∧
      n.val = (encode i).length ∧
      Sys2Proof.core.run (encode i).length s = exec i { s with inputs := rest, cmdBuf := buf, cmdLen := n }

/-- R124: while bytes of a known command are missing the step stores the byte and changes nothing else. -/
def Obligations.IncompleteCommandWaits : Prop :=
  ∀ (s : State) (b : Byte) (rest : List Event) (n : Nat) (h : s.cmdLen.val < 8),
    s.cfg.wf = true → s.inputs = .hostByte b :: rest →
    commandLength (s.cmdBuf.set s.cmdLen.val b h)[0] = some n → s.cmdLen.val + 1 < n →
    step s = .next { s with inputs := rest, cmdBuf := s.cmdBuf.set s.cmdLen.val b h,
                            cmdLen := ⟨s.cmdLen.val + 1, Nat.succ_lt_succ h⟩ }

/-- R110, R121 and R126 (derived by the spec): an unknown byte that arrives as a command byte is discarded alone. Of the
block's state only CMDBUF[0], which is above CMDLEN and never read, differs afterwards. -/
def Obligations.UnknownByteIsDiscarded : Prop :=
  ∀ (s : State) (b : Byte) (rest : List Event),
    s.cfg.wf = true → s.inputs = .hostByte b :: rest → s.cmdLen = 0 → commandLength b = none →
    step s = .next { s with inputs := rest, cmdBuf := s.cmdBuf.set 0 b }

/-- R125: every command completes; its handler sees PAUSE = 0 whatever PAUSE was, CMDLEN is 0 after it (after the handler
of 0x80 has reset the block too), and PAUSE is 0 after it except where the handler is 0x13's, in Ready. -/
def Obligations.DispatchClearsPauseAndBuffer : Prop :=
  ∀ (i : Instr) (s : State), exec i s = exec i { s with pause := false } ∧
    ∃ t, exec i s = .next t ∧ t.cmdLen = 0 ∧ (t.pause = true ↔ i = .pause ∧ s.booting = false)

/-! ## Mouse commands -/

/-- R142 (D41), R146, R148, R152, R153: what the register-setting mouse commands write, beyond PAUSE and CMDLEN, and nothing else. -/
def Obligations.MouseSettingCommandsWriteTheirRegisters : Prop :=
  ∀ (s : State) (a kx ky sx sy : Byte),
    (∃ t, exec (.setMouseAction a) s = .next t ∧ t = { s.dispatched with action := t.action } ∧
      ∀ k, k < 3 → t.action.getLsbD k = a.getLsbD k) ∧
    exec (.setKeycodeMouse kx ky) s = .next { s.dispatched with mmode := .cursorKey, kcX := kx, kcY := ky } ∧
    exec (.setScale sx sy) s = .next { s.dispatched with scaleX := sx, scaleY := sy } ∧
    exec .setYsignPos s = .next { s.dispatched with ysign := false } ∧
    exec .setYsignNeg s = .next { s.dispatched with ysign := true }

/-- R147: SET_THRESHOLD stores both thresholds and changes no mode; under the strict compare a threshold of 127 or more
never triggers on positive motion, one of 128 or more never on any, one of 0 on any motion. -/
def Obligations.SetThresholdStoresAndItsReach : Prop :=
  (∀ (s : State) (tx ty : Byte),
    exec (.setThreshold tx ty) s = .next { s.dispatched with thrX := tx, thrY := ty }) ∧
  (∀ c t : Int, -128 ≤ c → c ≤ 127 →
    (127 ≤ t → 0 < c → exceeds true c t = false) ∧ (128 ≤ t → exceeds true c t = false) ∧
    (c ≠ 0 → exceeds true c 0 = true)) ∧
  encode (.setThreshold 0x01 0x01) = [0x0B, 0x01, 0x01]

/-- R143 and R327: SET_REL_MOUSE selects Relative, and is remembered in MEDR while Booting only. -/
def Obligations.SetRelMouseRemembersBooting : Prop :=
  ∀ s : State,
    (s.booting = true → exec .setRelMouse s = .next { s.dispatched with mmode := .relative, medr := true }) ∧
    (s.booting = false → exec .setRelMouse s = .next { s.dispatched with mmode := .relative })

/-- R144, R145, R151 (D18): SET_ABS_MOUSE and LOAD_MOUSE_POS store their operands and clamp the position to the maxima; the
filler has no effect. -/
def Obligations.PositionCommandsClampToMaxima : Prop :=
  (∀ (s : State) (mx my : Word16), ∃ t, exec (.setAbsMouse mx my) s = .next t ∧
    t = { s.dispatched with mmode := .absolute, maxX := mx, maxY := my, absX := t.absX, absY := t.absY } ∧
    t.absX.toNat = min s.absX.toNat mx.toNat ∧ t.absY.toNat = min s.absY.toNat my.toNat) ∧
  (∀ (s : State) (f : Byte) (x y : Word16), ∃ t, exec (.loadMousePos f x y) s = .next t ∧
    t = { s.dispatched with absX := t.absX, absY := t.absY } ∧
    t.absX.toNat = min x.toNat s.maxX.toNat ∧ t.absY.toNat = min y.toNat s.maxY.toNat)

/-- R149 and R150 (D16, D40, GK5): INTERROGATE_MOUSE offers the six-byte packet in every mode. Each bit of the edge mask is
the button level of that bit where ABS_PREV_MASK allows it; ABS_PREV_MASK becomes the complement of the levels even where
the packet is dropped. -/
def Obligations.InterrogateMouseOffersAbsolutePacket : Prop :=
  ∀ s : State, FifoWf s.cfg.outCap s.out → ∃ (t : State) (e xh xl yh yl : Byte) (m : BitVec 4),
    exec .interrogateMouse s = .next t ∧
    Offers { s.dispatched with absPrevMask := m } t [0xF7, e, xh, xl, yh, yl] ∧
    (e.getLsbD 0 = (decide (s.btnR ≠ 0) && s.absPrevMask.getLsbD 0)) ∧
    (e.getLsbD 1 = (decide (s.btnR = 0) && s.absPrevMask.getLsbD 1)) ∧
    (e.getLsbD 2 = (decide (s.btnL ≠ 0) && s.absPrevMask.getLsbD 2)) ∧
    (e.getLsbD 3 = (decide (s.btnL = 0) && s.absPrevMask.getLsbD 3)) ∧
    e.toNat < 16 ∧
    m.getLsbD 0 = decide (s.btnR = 0) ∧ m.getLsbD 1 = decide (s.btnR ≠ 0) ∧
    m.getLsbD 2 = decide (s.btnL = 0) ∧ m.getLsbD 3 = decide (s.btnL ≠ 0) ∧
    s.absX.toNat = xh.toNat * 256 + xl.toNat ∧ s.absY.toNat = yh.toNat * 256 + yl.toNat

/-! ## Control and joystick commands -/

/-- R180 and R181: NOP_18 and NOP_19 do nothing but what every dispatch does, whatever NOP_19's six bytes hold; NOP_19 is
the longest command. -/
def Obligations.UnimplementedCommandsOnlyClearPause : Prop :=
  (∀ s : State, exec .nop18 s = .next { s with pause := false, cmdLen := 0 }) ∧
  (∀ (s : State) (p1 p2 p3 p4 p5 p6 : Byte),
    exec (.nop19 p1 p2 p3 p4 p5 p6) s = .next { s with pause := false, cmdLen := 0 }) ∧
  encode .nop18 = [0x18] ∧
  (∀ p1 p2 p3 p4 p5 p6 : Byte, encode (.nop19 p1 p2 p3 p4 p5 p6) = [0x19, p1, p2, p3, p4, p5, p6] ∧
    decode [0x19, p1, p2, p3, p4, p5, p6] = .command (.nop19 p1 p2 p3 p4 p5 p6) []) ∧
  (∀ i : Instr, (encode i).length ≤ 7)

/-- R173: RESUME clears PAUSE, in both phases, and does nothing else: BOOTING stays as it is and no dropped byte comes back. -/
def Obligations.ResumeOnlyClearsPause : Prop :=
  (∀ s : State, exec .resume s = .next { s with pause := false, cmdLen := 0 }) ∧
  encode .resume = [0x11] ∧ decode [0x11] = .command .resume [] ∧
  (∀ s t u : State, s.booting = false → exec .pause s = .next t → exec .resume t = .next u → u.pause = false)

/-- R175, R73 and R77: PAUSE sets PAUSE in Ready and has no effect of its own while Booting; while PAUSE is 1 every packet
offered is dropped, not kept for later, which is the spec's decision D3 (log 19). -/
def Obligations.PauseStopsPacketsInReadyOnly : Prop :=
  (∀ s : State, s.booting = false → exec .pause s = .next { s.dispatched with pause := true }) ∧
  (∀ s : State, s.booting = true → exec .pause s = .next s.dispatched) ∧
  (∀ (s : State) (p : List Byte), s.pause = true → enqueue p s = s)

/-- R174, R182, R325, R326: DISABLE_MOUSE and DISABLE_JOY in each phase, and the both-disabled quirk at the second of them. -/
def Obligations.DisableCommandsAndBothDisabledQuirk : Prop :=
  ∀ s : State,
    (s.booting = false → exec .disableMouse s = .next { s.dispatched with mmode := .off } ∧
      exec .disableJoy s = .next { s.dispatched with jmode := .off }) ∧
    (s.booting = true → s.jdis = false →
      exec .disableMouse s = .next { s.dispatched with mmode := .off, mdis := true }) ∧
    (s.booting = true → s.jdis = true → exec .disableMouse s =
      .next { s.dispatched with mmode := .relative, jmode := .auto, mdis := true, both := true }) ∧
    (s.booting = true → s.mdis = false →
      exec .disableJoy s = .next { s.dispatched with jmode := .off, jdis := true }) ∧
    (s.booting = true → s.mdis = true → exec .disableJoy s =
      .next { s.dispatched with mmode := .relative, jmode := .auto, jdis := true, both := true })

/-- R176 and R328 (D31): SET_JOY_AUTO turns the mouse off, except that with MEDR or MDIS set it leaves it Relative, in both phases. -/
def Obligations.SetJoyAutoHonoursOverride : Prop :=
  ∀ s : State,
    (s.medr = true ∨ s.mdis = true → exec .setJoyAuto s = .next { s.dispatched with jmode := .auto, mmode := .relative }) ∧
    (s.medr = false ∧ s.mdis = false → exec .setJoyAuto s = .next { s.dispatched with jmode := .auto, mmode := .off })

/-- R177 (D30) and R179 (D23, D45): SET_JOY_OFF, and SET_JOY_MONITOR with rate 0 taken as 1, write their registers and nothing else. -/
def Obligations.JoystickModeCommands : Prop :=
  (∀ s : State, exec .setJoyOff s = .next { s.dispatched with jmode := .off }) ∧
  (∀ s : State, exec (.setJoyMonitor 0x00) s = .next { s.dispatched with jmode := .monitoring, jrate := 1 }) ∧
  (∀ (s : State) (r : Byte), r ≠ 0 →
    exec (.setJoyMonitor r) s = .next { s.dispatched with jmode := .monitoring, jrate := r })

/-- R178 (D22, GK8): INTERROGATE_JOY offers the values of the last poll in every joystick mode. -/
def Obligations.InterrogateJoyOffersPolledSticks : Prop :=
  ∀ s : State, FifoWf s.cfg.outCap s.out → Responds s .interrogateJoy [0xFD, s.jcur0, s.jcur1]

/-- R172: a RESET whose key is not 0x01 is ignored: both bytes are consumed and only the dispatch's own effect remains. -/
def Obligations.MalformedResetIsIgnored : Prop :=
  ∀ (s : State) (k : Byte), k ≠ 0x01 → exec (.reset k) s = .next s.dispatched

/-! ## Reset -/

/-- R58's cold column, under the default configuration (D16, D26, D27, D38, D39: the spec's decisions; CMDBUF and OUTBUF,
which R58 leaves unspecified, are not mentioned). -/
def Obligations.ResetStateHoldsColdColumn : Prop :=
  let s := State.reset
  (s.cmdLen = 0 ∧ s.out.head = 0 ∧ s.out.tail = 0 ∧ s.out.count = 0 ∧ s.pause = false) ∧
  (s.mmode = .relative ∧ s.jmode = .auto ∧ s.action = 0b000 ∧ s.absX = 0 ∧ s.absY = 0 ∧ s.maxX = 0xFFFF ∧ s.maxY = 0xFFFF) ∧
  (s.accX = 0 ∧ s.accY = 0 ∧ s.deltaX = 0 ∧ s.deltaY = 0 ∧ s.scaleX = 1 ∧ s.scaleY = 1 ∧ s.thrX = 1 ∧ s.thrY = 1) ∧
  (s.kcX = 1 ∧ s.kcY = 1 ∧ s.ysign = false ∧ s.btnL = 0 ∧ s.btnR = 0 ∧ s.btnLPrev = 0 ∧ s.btnRPrev = 0) ∧
  (s.absPrevMask = 0b0101 ∧ s.jcur0 = 0 ∧ s.jcur1 = 0 ∧ s.jprev0 = 0 ∧ s.jprev1 = 0 ∧ s.jrate = 1) ∧
  (∀ k : Fin 128, s.keyState[k] = false) ∧
  (s.booting = true ∧ s.mdis = false ∧ s.jdis = false ∧ s.both = false ∧ s.medr = false ∧ s.timerArmed = true) ∧
  s.clock = [0, 0, 0, 0, 0, 0]

/-- R316, R317, R58 (D26, D27): a cold reset in any state gives the state the block starts in, but for CMDBUF, which is
unspecified, OUTBUF, which keeps its contents, and the environment's lists; BootTimerArm is asserted. -/
def Obligations.ColdResetGivesInitialState : Prop :=
  ∀ s : State, ∃ t, takeEvent .coldReset s = .next t ∧
    t = { State.initial s.cfg with
      inputs := s.inputs, outputs := s.outputs ++ [.bootTimerArm], freeCount := s.freeCount + 8,
      cmdBuf := t.cmdBuf, out := { buf := s.out.buf, head := 0, tail := 0, count := 0 } }

/-- R172, R317, R58's warm column (D26, D27): `80 01` does what a cold reset does, but keeps CLOCK and the physical source
bits of the buttons. -/
def Obligations.WarmResetKeepsClockAndPhysicalButtons : Prop :=
  ∀ s : State, ∃ t, exec (.reset 0x01) s = .next t ∧
    t = { State.initial s.cfg with
      inputs := s.inputs, outputs := s.outputs ++ [.bootTimerArm], freeCount := s.freeCount + 8,
      cmdBuf := t.cmdBuf, out := { buf := s.out.buf, head := 0, tail := 0, count := 0 },
      btnL := s.btnL &&& 0b01, btnR := s.btnR &&& 0b01, clock := s.clock }

/-- R322, R323 (D29, D30): from every state that meets the invariant, the expiry of an armed timer opens Ready, clears MEDR
and puts exactly the boot byte into the FIFO; MDIS, JDIS and BOTH are kept. An expiry that is not armed does not happen (log 3). -/
def Obligations.BootTimerExpiryOpensReady : Prop :=
  (∀ s : State, Inv s → s.timerArmed = true → ∃ t, takeEvent .bootTimerExpire s = .next t ∧
    t = { s with timerArmed := false, booting := false, medr := false, out := t.out } ∧ t.unread = [s.cfg.bootByte]) ∧
  (∀ s : State, s.timerArmed = false → takeEvent .bootTimerExpire s = .next s)

/-- R43, R303, R320 (D4, D33), R321: from every state that meets the invariant, while Booting no step but the timer's expiry
ends Booting or puts a byte into the FIFO or onto the wire. -/
def Obligations.BootingSuppressesOutputUntilExpiry : Prop :=
  ∀ s t : State, Inv s → s.booting = true → step s = .next t → ¬ Takes s .bootTimerExpire →
    t.booting = true ∧ t.unread = [] ∧ (t.outputs = s.outputs ∨ t.outputs = s.outputs ++ [.bootTimerArm])

/-! ## Report commands (R201, R202; the frames are general knowledge by the spec's marks: D24, D25, GK3) -/

/-- R203, R205 to R207: the three mouse-mode reports offer the frame of the current mode. -/
def Obligations.MouseModeReportsOfferModeFrame : Prop :=
  ∀ s : State, FifoWf s.cfg.outCap s.out → ∃ f : List Byte,
    Responds s .reportMouseMode88 (f.take s.cfg.reportLen.r88.bytes) ∧
    Responds s .reportMouseMode89 (f.take s.cfg.reportLen.r89.bytes) ∧
    Responds s .reportMouseMode8A (f.take s.cfg.reportLen.r8A.bytes) ∧
    (s.mmode = .relative → f = [0xF6, 0x08, 0, 0, 0, 0, 0, 0]) ∧
    (s.mmode = .absolute → ∃ xh xl yh yl : Byte, f = [0xF6, 0x09, xh, xl, yh, yl, 0, 0] ∧
      s.maxX.toNat = xh.toNat * 256 + xl.toNat ∧ s.maxY.toNat = yh.toNat * 256 + yl.toNat) ∧
    (s.mmode = .cursorKey → f = [0xF6, 0x0A, s.kcX, s.kcY, 0, 0, 0, 0]) ∧
    (s.mmode = .off → f = [0xF6, 0x12, 0, 0, 0, 0, 0, 0])

/-- R204, R208 to R212: the other mouse reports. -/
def Obligations.MouseSettingReportsOfferFrames : Prop :=
  ∀ s : State, FifoWf s.cfg.outCap s.out →
    (∃ a : Byte, a.toNat = s.action.toNat ∧
      Responds s .reportAction (List.take s.cfg.reportLen.r87.bytes [0xF6, 0x07, a, 0, 0, 0, 0, 0])) ∧
    Responds s .reportThreshold (List.take s.cfg.reportLen.r8B.bytes [0xF6, 0x0B, s.thrX, s.thrY, 0, 0, 0, 0]) ∧
    Responds s .reportScale (List.take s.cfg.reportLen.r8C.bytes [0xF6, 0x0C, s.scaleX, s.scaleY, 0, 0, 0, 0]) ∧
    (∃ sub : Byte, sub = (if s.ysign = false then 0x0F else 0x10) ∧
      Responds s .reportYsign8F (List.take s.cfg.reportLen.r8F.bytes [0xF6, sub, 0, 0, 0, 0, 0, 0]) ∧
      Responds s .reportYsign90 (List.take s.cfg.reportLen.r90.bytes [0xF6, sub, 0, 0, 0, 0, 0, 0])) ∧
    (∃ sub : Byte, sub = (if s.mmode = .off then 0x12 else 0x00) ∧
      Responds s .reportMouseAvail (List.take s.cfg.reportLen.r92.bytes [0xF6, sub, 0, 0, 0, 0, 0, 0]))

/-- R213 to R216: the joystick reports. -/
def Obligations.JoystickReportsOfferFrames : Prop :=
  ∀ s : State, FifoWf s.cfg.outCap s.out →
    (∃ f : List Byte,
      Responds s .reportJoyMode94 (f.take s.cfg.reportLen.r94.bytes) ∧
      Responds s .reportJoyMode95 (f.take s.cfg.reportLen.r95.bytes) ∧
      Responds s .reportJoyMode99 (f.take s.cfg.reportLen.r99.bytes) ∧
      (s.jmode = .auto → f = [0xF6, 0x14, 0, 0, 0, 0, 0, 0]) ∧
      (s.jmode = .off → f = [0xF6, 0x15, 0, 0, 0, 0, 0, 0]) ∧
      (s.jmode = .monitoring → f = [0xF6, 0x17, s.jrate, 0, 0, 0, 0, 0])) ∧
    (∃ sub : Byte, sub = (if s.jmode = .off then 0x1A else 0x00) ∧
      Responds s .reportJoyAvail (List.take s.cfg.reportLen.r9A.bytes [0xF6, sub, 0, 0, 0, 0, 0, 0]))

/-! ## The output channel -/

/-- R76 (D36): OutPop takes the oldest unread byte and leaves the others in order, whatever PAUSE and BOOTING hold; with an
empty FIFO there is no such step and the block keeps its state (log 3). -/
def Obligations.OutPopTakesOldestByte : Prop :=
  (∀ s : State, FifoWf s.cfg.outCap s.out → 0 < s.out.count → ∃ (t : State) (b : Byte),
    takeEvent .outPop s = .next t ∧ s.unread = b :: t.unread ∧ t.outputs = s.outputs ++ [.byte b] ∧
    t = { s with out := t.out, outputs := t.outputs } ∧ t.out.buf = s.out.buf ∧ t.out.tail = s.out.tail ∧
    t.out.count + 1 = s.out.count) ∧
  (∀ s : State, s.out.count = 0 → takeEvent .outPop s = .next s)

/-- R78: no step waits or fails for lack of FIFO space, and a full FIFO drops what is offered. -/
def Obligations.NoStepFailsForLackOfSpace : Prop :=
  (∀ s : State, s.cfg.wf = true → Completes (step s)) ∧
  (∀ (s : State) (p : List Byte), 0 < p.length → s.out.count = s.cfg.outCap → enqueue p s = s)

/-! ## Key and mouse events -/

/-- R282: a key byte is the release flag in bit 7 and the code in bits 6:0; released codes 0x76 to 0x7F give 0xF6 to 0xFF. -/
def Obligations.KeyByteFormat : Prop :=
  (∀ (code : BitVec 7) (isPressed : Bool), (keyByte code isPressed).getLsbD 7 = (!isPressed) ∧
    (keyByte code isPressed).extractLsb' 0 7 = code) ∧
  (∀ code : BitVec 7, 0x76 ≤ code.toNat → (keyByte code false).toNat = code.toNat + 0x80)

/-- R281 (D38): a key transition writes its KEYSTATE entry in every mode and phase and offers its byte unless JMODE is Monitoring. -/
def Obligations.KeyTransitionWritesStateAndOffersByte : Prop :=
  ∀ (s : State) (code : BitVec 7) (isPressed : Bool), FifoWf s.cfg.outCap s.out → ∃ (t : State) (keys : Vector Bool 128),
    takeEvent (.keyTransition code isPressed) s = .next t ∧
    (∀ k : Fin 128, keys[k] = if k.val = code.toNat then isPressed else s.keyState[k]) ∧
    (s.jmode = .monitoring → t = { s with keyState := keys }) ∧
    (s.jmode ≠ .monitoring → ∃ b : Byte, b.toNat = code.toNat + (if isPressed then 0 else 128) ∧
      Offers { s with keyState := keys } t [b])

/-- R283 (D19, D37): mouse motion adds each signed count to its accumulator, exactly where the sum fits 32 bits, and does
nothing else. Of a sum that does not fit, for which the rule gives the wrap, nothing is claimed
(93_implementation_defined.md U11, log 23). -/
def Obligations.MouseMotionAccumulates : Prop :=
  ∀ (s : State) (dx dy : Word16), ∃ t, takeEvent (.mouseMotion dx dy) s = .next t ∧
    t = { s with accX := t.accX, accY := t.accY } ∧
    (-(2 ^ 31) ≤ s.accX.toInt + dx.toInt → s.accX.toInt + dx.toInt < 2 ^ 31 → t.accX.toInt = s.accX.toInt + dx.toInt) ∧
    (-(2 ^ 31) ≤ s.accY.toInt + dy.toInt → s.accY.toInt + dy.toInt < 2 ^ 31 → t.accY.toInt = s.accY.toInt + dy.toInt)

/-- R284 (D14): the buttons event writes the physical source bits and keeps the joystick-sourced ones. -/
def Obligations.MouseButtonsWritePhysicalSource : Prop :=
  ∀ (s : State) (l r : Bool), ∃ t, takeEvent (.mouseButtons l r) s = .next t ∧
    t = { s with btnL := t.btnL, btnR := t.btnR } ∧
    t.btnL.getLsbD 0 = l ∧ t.btnL.getLsbD 1 = s.btnL.getLsbD 1 ∧
    t.btnR.getLsbD 0 = r ∧ t.btnR.getLsbD 1 = s.btnR.getLsbD 1

/-- R235: the four edge tests compare only pressed against not pressed, where pressed is a mask that is not zero. -/
def Obligations.EdgesCompareOnlyPressed : Prop :=
  ∀ s : State,
    (edgeL s = true ↔ ¬ (s.btnL ≠ 0 ↔ s.btnLPrev ≠ 0)) ∧
    (edgeR s = true ↔ ¬ (s.btnR ≠ 0 ↔ s.btnRPrev ≠ 0)) ∧
    (pressEdge s = true ↔ (s.btnL ≠ 0 ∧ s.btnLPrev = 0) ∨ (s.btnR ≠ 0 ∧ s.btnRPrev = 0)) ∧
    (releaseEdge s = true ↔ (s.btnL = 0 ∧ s.btnLPrev ≠ 0) ∨ (s.btnR = 0 ∧ s.btnRPrev ≠ 0)) ∧
    (s.btnR = 0b10 → s.btnRPrev = 0b01 → edgeR s = false)

/-! ## The tick -/

/-- R231, R233, R234, R271 (D17, D19, D21, D44): in every mode a tick empties the accumulators, moves the position by
exactly the scaled and signed new motion and clamps it, and polls the sticks with the aliasing rule; it writes no
configuration register, mode or flag. -/
def Obligations.TickPollsSticksAndMovesPosition : Prop :=
  ∀ (s : State) (j0 j1 : Byte), ∃ t, takeEvent (.tick j0 j1) s = .next t ∧
    t = { s with accX := 0, accY := 0, absX := t.absX, absY := t.absY, deltaX := t.deltaX, deltaY := t.deltaY,
                 jcur0 := t.jcur0, jcur1 := t.jcur1, jprev0 := t.jprev0, jprev1 := t.jprev1, btnR := t.btnR,
                 btnLPrev := t.btnLPrev, btnRPrev := t.btnRPrev, absPrevMask := t.absPrevMask, out := t.out } ∧
    (t.absX.toNat : Int) =
      min (max ((s.absX.toNat : Int) + s.accX.toInt * max 1 (s.scaleX.toNat : Int)) 0) (s.maxX.toNat : Int) ∧
    (t.absY.toNat : Int) =
      min (max ((s.absY.toNat : Int) + s.accY.toInt * max 1 (s.scaleY.toNat : Int) * (if s.ysign then -1 else 1)) 0)
        (s.maxY.toNat : Int) ∧
    t.btnR.getLsbD 0 = s.btnR.getLsbD 0 ∧
    (s.mmode = .off → t.jcur0 = (j0 &&& 0x8F) ||| (j1 &&& 0x80) ∧ t.jcur1 = j1 &&& 0x8F ∧ t.btnR.getLsbD 1 = false) ∧
    (s.mmode ≠ .off → t.jcur0 = j0 &&& 0x8F ∧ t.jcur1 = j1 &&& 0x0F ∧ t.btnR.getLsbD 1 = j1.getLsbD 7)

/-- R247, R276, R277 (D10, D23, GK9): a monitoring tick clears the residual, keeps the edge history and the last-sent
joystick masks, and offers the monitoring packet of the raw lines and nothing else. -/
def Obligations.MonitoringTickOffersRawSticksOnly : Prop :=
  ∀ (s : State) (j0 j1 : Byte), FifoWf s.cfg.outCap s.out → s.jmode = .monitoring →
    ∃ (t u : State) (b1 b2 : Byte), takeEvent (.tick j0 j1) s = .next t ∧ Offers u t [b1, b2] ∧
      u = { s with accX := 0, accY := 0, deltaX := 0, deltaY := 0, absX := t.absX, absY := t.absY,
                   jcur0 := t.jcur0, jcur1 := t.jcur1, btnR := t.btnR } ∧
      b1.toNat = 2 * (j0.getLsbD 7).toNat + (j1.getLsbD 7).toNat ∧
      b2.toNat = 16 * (j0.toNat % 16) + j1.toNat % 16

/-- R240 and R241 (D6, D8, D15, GK4): the threshold compare, for both values of THRESH_STRICT, and one relative step. With
nothing owed it does nothing. Otherwise it offers the packet of the buttons and the clamped motion, takes exactly that motion
out of the residual and consumes the edges, even where the packet is dropped. -/
def Obligations.RelativeStepOffersClampedMotion : Prop :=
  (∀ c t : Int, exceeds true c t = true ↔ (c < 0 ∧ c < -t) ∨ (0 < c ∧ t < c)) ∧
  (∀ c t : Int, exceeds false c t = true ↔ (c < 0 ∧ c ≤ -t) ∨ (0 < c ∧ t ≤ c)) ∧
  ∀ s : State, FifoWf s.cfg.outCap s.out → ∃ cx cy : Int,
    cx = min (max s.deltaX.toInt (-128)) 127 ∧ cy = min (max s.deltaY.toInt (-128)) 127 ∧
    (exceeds s.cfg.threshStrict cx s.thrX.toNat = false → exceeds s.cfg.threshStrict cy s.thrY.toNat = false →
      edgeL s = false → edgeR s = false → relStep s = none) ∧
    (exceeds s.cfg.threshStrict cx s.thrX.toNat = true ∨ exceeds s.cfg.threshStrict cy s.thrY.toNat = true ∨
        edgeL s = true ∨ edgeR s = true →
      ∃ (t u : State) (h bx dy : Byte), relStep s = some t ∧
        Offers s u [h, bx, dy] ∧
        t = { u with deltaX := t.deltaX, deltaY := t.deltaY, btnLPrev := s.btnL, btnRPrev := s.btnR } ∧
        t.deltaX.toInt + cx = s.deltaX.toInt ∧ t.deltaY.toInt + cy = s.deltaY.toInt ∧
        h.toNat = 0xF8 + (if s.btnL ≠ 0 then 2 else 0) + (if s.btnR ≠ 0 then 1 else 0) ∧
        bx.toInt = cx ∧ (s.ysign = false → dy.toInt = cy) ∧
        (s.ysign = true → dy = BitVec.ofInt 8 (-cy)))

/-- R242 and R248 (D5, log 17): under PerTick the report is one relative step where one is owed, and nothing otherwise. Under
UntilConverged it is some number `k` of relative steps, one after another, each owed when it is taken and none owed after the
last; `k` is within R248's bound, the larger residual divided by 127 and rounded up, plus 1. -/
def Obligations.RelativeReportPolicies : Prop :=
  (∀ s : State, s.cfg.relLoop = .perTick →
    (relStep s = none → relReport s = s) ∧ (∀ t, relStep s = some t → relReport s = t)) ∧
  (∀ s : State, s.cfg.relLoop = .untilConverged → ∃ (k : Nat) (after : Nat → State),
    after 0 = s ∧ (∀ j, j < k → relStep (after j) = some (after (j + 1))) ∧ relReport s = after k ∧
    relStep (relReport s) = none ∧ k ≤ (max s.deltaX.toInt.natAbs s.deltaY.toInt.natAbs + 126) / 127 + 1)

/-- R243 and R245 (D11, D20, GK10, GK11): one cursor step. Each axis offers at most one key stroke, toward the sign of its
residual, and shrinks by the step size; then each button edge is offered and consumed, left before right. -/
def Obligations.CursorStepOffersStrokesThenEdges : Prop :=
  ∀ s : State, FifoWf s.cfg.outCap s.out →
    ∃ (a b c d : State), cursorStep s = d ∧
    (((s.deltaX.toInt < 0 ∧ s.deltaX.toInt ≤ -(s.kcX.toNat : Int)) ∧
        (∃ u, Offers s u [0x4B, 0xCB] ∧ a = { u with deltaX := a.deltaX }) ∧
        a.deltaX.toInt = s.deltaX.toInt + s.kcX.toNat) ∨
      ((0 < s.deltaX.toInt ∧ (s.kcX.toNat : Int) ≤ s.deltaX.toInt) ∧
        (∃ u, Offers s u [0x4D, 0xCD] ∧ a = { u with deltaX := a.deltaX }) ∧
        a.deltaX.toInt = s.deltaX.toInt - s.kcX.toNat) ∨
      ((s.deltaX.toInt = 0 ∨ (-(s.kcX.toNat : Int) < s.deltaX.toInt ∧ s.deltaX.toInt < s.kcX.toNat)) ∧ a = s)) ∧
    (((s.deltaY.toInt < 0 ∧ s.deltaY.toInt ≤ -(s.kcY.toNat : Int)) ∧
        (∃ u, Offers a u [0x48, 0xC8] ∧ b = { u with deltaY := b.deltaY }) ∧
        b.deltaY.toInt = s.deltaY.toInt + s.kcY.toNat) ∨
      ((0 < s.deltaY.toInt ∧ (s.kcY.toNat : Int) ≤ s.deltaY.toInt) ∧
        (∃ u, Offers a u [0x50, 0xD0] ∧ b = { u with deltaY := b.deltaY }) ∧
        b.deltaY.toInt = s.deltaY.toInt - s.kcY.toNat) ∨
      ((s.deltaY.toInt = 0 ∨ (-(s.kcY.toNat : Int) < s.deltaY.toInt ∧ s.deltaY.toInt < s.kcY.toNat)) ∧ b = a)) ∧
    ((edgeL s = true ∧ ∃ u, Offers b u [if s.btnL ≠ 0 then 0x74 else 0xF4] ∧ c = { u with btnLPrev := s.btnL }) ∨
      (edgeL s = false ∧ c = b)) ∧
    ((edgeR s = true ∧ ∃ u, Offers c u [if s.btnR ≠ 0 then 0x75 else 0xF5] ∧ d = { u with btnRPrev := s.btnR }) ∨
      (edgeR s = false ∧ d = c))

/-- R244: a cursor step is due exactly when an axis has a residual that is not 0 and reaches its step size on either side, or
a button has an edge; the cursor report takes steps while one is due, at most ten. -/
def Obligations.CursorReportStopsAtTenSteps : Prop :=
  (∀ s : State, cursorDue s = true ↔
    (s.deltaX.toInt ≠ 0 ∧ (s.deltaX.toInt ≤ -(s.kcX.toNat : Int) ∨ (s.kcX.toNat : Int) ≤ s.deltaX.toInt)) ∨
    (s.deltaY.toInt ≠ 0 ∧ (s.deltaY.toInt ≤ -(s.kcY.toNat : Int) ∨ (s.kcY.toNat : Int) ≤ s.deltaY.toInt)) ∨
    edgeL s = true ∨ edgeR s = true) ∧
  ∀ s : State, ∃ k, k ≤ 10 ∧ cursorReport s = cursorStep^[k] s ∧
    (∀ j, j < k → cursorDue (cursorStep^[j] s) = true) ∧
    (k < 10 → cursorDue (cursorReport s) = false)

/-- R236 to R239, R246 (D7, D9, D11, D12, D13): the mouse half of a tick. With ACTION's bit 2 each edge is one key byte, left
before right, and nothing else is reported; otherwise a matching edge forces one absolute report, the mode's own report
follows (none in Off and Absolute, which drop the residual), and the edges are consumed. -/
def Obligations.MouseReportFollowsActionAndMode : Prop :=
  ∀ s : State, FifoWf s.cfg.outCap s.out →
    (s.action.getLsbD 2 = true → ∃ a b : State,
      (edgeL s = true → Offers s a [if s.btnL ≠ 0 then 0x74 else 0xF4]) ∧ (edgeL s = false → a = s) ∧
      (edgeR s = true → Offers a b [if s.btnR ≠ 0 then 0x75 else 0xF5]) ∧ (edgeR s = false → b = a) ∧
      mouseReport s = { b with btnLPrev := s.btnL, btnRPrev := s.btnR, deltaX := 0, deltaY := 0 }) ∧
    (s.action.getLsbD 2 = false → ∃ a b : State,
      ((s.action.getLsbD 0 = true ∧ pressEdge s = true) ∨ (s.action.getLsbD 1 = true ∧ releaseEdge s = true) →
        a = absReport s) ∧
      (¬ ((s.action.getLsbD 0 = true ∧ pressEdge s = true) ∨ (s.action.getLsbD 1 = true ∧ releaseEdge s = true)) →
        a = s) ∧
      (s.mmode = .relative → b = relReport a) ∧ (s.mmode = .cursorKey → b = cursorReport a) ∧
      (s.mmode = .absolute ∨ s.mmode = .off → b = { a with deltaX := 0, deltaY := 0 }) ∧
      mouseReport s = { b with btnLPrev := s.btnL, btnRPrev := s.btnR })

/-- R274, R275 (D8, D9, D21, GK7): the auto report offers a packet for each stick that differs from what was last sent,
stick 0 first, and records it as sent even where the packet is dropped. -/
def Obligations.AutoReportSendsChangedSticks : Prop :=
  ∀ s : State, FifoWf s.cfg.outCap s.out → ∃ a b : State,
    (s.jcur0 ≠ s.jprev0 → Offers s a [0xFE, s.jcur0]) ∧ (s.jcur0 = s.jprev0 → a = s) ∧
    (s.jcur1 ≠ s.jprev1 → Offers a b [0xFF, s.jcur1]) ∧ (s.jcur1 = s.jprev1 → b = a) ∧
    joyAutoReport s = { b with jprev0 := s.jcur0, jprev1 := s.jcur1 }

/-- R231, R232, R233, R273, R280 (D9): after its motion part, which adds the new motion to the residual (exactly where the sum
fits 32 bits; nothing is claimed beyond, U11, log 23), a tick runs the mouse report and then, in Auto, the joystick report; in
Monitoring only the monitoring packet. -/
def Obligations.TickOrdersItsReports : Prop :=
  ∀ (s : State) (j0 j1 : Byte), ∃ m : State,
    m = { s with accX := 0, accY := 0, absX := m.absX, absY := m.absY, deltaX := m.deltaX, deltaY := m.deltaY,
                 jcur0 := m.jcur0, jcur1 := m.jcur1, btnR := m.btnR } ∧
    (-(2 ^ 31) ≤ s.deltaX.toInt + s.accX.toInt → s.deltaX.toInt + s.accX.toInt < 2 ^ 31 →
      m.deltaX.toInt = s.deltaX.toInt + s.accX.toInt) ∧
    (-(2 ^ 31) ≤ s.deltaY.toInt + s.accY.toInt → s.deltaY.toInt + s.accY.toInt < 2 ^ 31 →
      m.deltaY.toInt = s.deltaY.toInt + s.accY.toInt) ∧
    (s.jmode = .auto → takeEvent (.tick j0 j1) s = .next (joyAutoReport (mouseReport m))) ∧
    (s.jmode = .off → takeEvent (.tick j0 j1) s = .next (mouseReport m)) ∧
    (s.jmode = .monitoring → takeEvent (.tick j0 j1) s = .next (monitorReport j0 j1 { m with deltaX := 0, deltaY := 0 }))

/-- R248 (derived by the spec): under PerTick one tick adds at most 70 bytes to the FIFO: a forced absolute report of 6, ten
cursor steps of 6, two joystick packets of 2. -/
def Obligations.TickOutputIsBounded : Prop :=
  ∀ (s t : State) (j0 j1 : Byte), s.cfg.relLoop = .perTick → takeEvent (.tick j0 j1) s = .next t →
    s.out.count ≤ t.out.count ∧ t.out.count ≤ s.out.count + 70

/-! ## Who writes what (R52's column W) -/

/-- R52, mouse registers: a step changes one of them only where the table lists it as a writer. Which command a step dispatches
in states no run reaches is the model's choice (log 14). -/
def Obligations.MouseRegistersChangeOnlyByTheirWriters : Prop :=
  ∀ s t : State, step s = .next t → ¬ Resets s →
    (t.action ≠ s.action → ∃ a, Dispatches s (.setMouseAction a)) ∧
    (t.mmode ≠ s.mmode → Dispatches s .setRelMouse ∨ (∃ x y, Dispatches s (.setAbsMouse x y)) ∨
      (∃ x y, Dispatches s (.setKeycodeMouse x y)) ∨ Dispatches s .disableMouse ∨ Dispatches s .setJoyAuto ∨
      (Dispatches s .disableJoy ∧ s.booting = true ∧ s.mdis = true)) ∧
    (t.absX ≠ s.absX ∨ t.absY ≠ s.absY → (∃ x y, Dispatches s (.setAbsMouse x y)) ∨
      (∃ f x y, Dispatches s (.loadMousePos f x y)) ∨ TakesTick s) ∧
    (t.maxX ≠ s.maxX ∨ t.maxY ≠ s.maxY → ∃ x y, Dispatches s (.setAbsMouse x y)) ∧
    (t.accX ≠ s.accX ∨ t.accY ≠ s.accY → (∃ x y, Takes s (.mouseMotion x y)) ∨ TakesTick s) ∧
    (t.deltaX ≠ s.deltaX ∨ t.deltaY ≠ s.deltaY → TakesTick s) ∧
    (t.scaleX ≠ s.scaleX ∨ t.scaleY ≠ s.scaleY → ∃ x y, Dispatches s (.setScale x y)) ∧
    (t.thrX ≠ s.thrX ∨ t.thrY ≠ s.thrY → ∃ x y, Dispatches s (.setThreshold x y)) ∧
    (t.kcX ≠ s.kcX ∨ t.kcY ≠ s.kcY → ∃ x y, Dispatches s (.setKeycodeMouse x y)) ∧
    (t.ysign ≠ s.ysign → Dispatches s .setYsignPos ∨ Dispatches s .setYsignNeg) ∧
    (t.btnL ≠ s.btnL → ∃ l r, Takes s (.mouseButtons l r)) ∧
    (t.btnR ≠ s.btnR → (∃ l r, Takes s (.mouseButtons l r)) ∨ TakesTick s) ∧
    (t.btnLPrev ≠ s.btnLPrev ∨ t.btnRPrev ≠ s.btnRPrev → TakesTick s) ∧
    (t.absPrevMask ≠ s.absPrevMask → Dispatches s .interrogateMouse ∨ TakesTick s)

/-- R52, joystick registers, keys, flags, the parser and the configuration (which nothing writes, log 5). Which
command a step dispatches in states no run reaches is the model's choice (log 14). -/
def Obligations.OtherRegistersChangeOnlyByTheirWriters : Prop :=
  ∀ s t : State, step s = .next t → t.cfg = s.cfg ∧ (t.clock ≠ s.clock → Takes s .coldReset) ∧ (¬ Resets s →
    (t.jmode ≠ s.jmode → Dispatches s .setJoyAuto ∨ Dispatches s .setJoyOff ∨ (∃ r, Dispatches s (.setJoyMonitor r)) ∨
      Dispatches s .disableJoy ∨ (Dispatches s .disableMouse ∧ s.booting = true ∧ s.jdis = true)) ∧
    (t.jcur0 ≠ s.jcur0 ∨ t.jcur1 ≠ s.jcur1 ∨ t.jprev0 ≠ s.jprev0 ∨ t.jprev1 ≠ s.jprev1 → TakesTick s) ∧
    (t.jrate ≠ s.jrate → ∃ r, Dispatches s (.setJoyMonitor r)) ∧
    (t.keyState ≠ s.keyState → ∃ k p, Takes s (.keyTransition k p)) ∧
    (t.pause ≠ s.pause → ∃ i, Dispatches s i) ∧
    (t.cmdBuf ≠ s.cmdBuf ∨ t.cmdLen ≠ s.cmdLen → ∃ b, Takes s (.hostByte b)) ∧
    (t.booting ≠ s.booting ∨ t.timerArmed ≠ s.timerArmed →
      Takes s .bootTimerExpire ∧ s.timerArmed = true ∧ t.booting = false ∧ t.timerArmed = false) ∧
    (t.mdis ≠ s.mdis → Dispatches s .disableMouse ∧ s.booting = true ∧ t.mdis = true) ∧
    (t.jdis ≠ s.jdis → Dispatches s .disableJoy ∧ s.booting = true ∧ t.jdis = true) ∧
    (t.both ≠ s.both → (Dispatches s .disableMouse ∨ Dispatches s .disableJoy) ∧ s.booting = true ∧ t.both = true) ∧
    (t.medr ≠ s.medr → (Dispatches s .setRelMouse ∧ s.booting = true ∧ t.medr = true) ∨
      (Takes s .bootTimerExpire ∧ t.medr = false)))
end

