-- ==== Sys2Proof/Laws/State.lean ====
section
/-! SUPPORT. One lemma per field for each named update of State, true by rfl. -/

namespace Sys2Proof.Machine

/-! ## `enqueue`: only the FIFO -/

@[simp] theorem enqueue_cfg (p : List Byte) (s : State) : (enqueue p s).cfg = s.cfg := rfl
@[simp] theorem enqueue_inputs (p : List Byte) (s : State) : (enqueue p s).inputs = s.inputs := rfl
@[simp] theorem enqueue_outputs (p : List Byte) (s : State) : (enqueue p s).outputs = s.outputs := rfl
@[simp] theorem enqueue_freeCount (p : List Byte) (s : State) : (enqueue p s).freeCount = s.freeCount := rfl
@[simp] theorem enqueue_cmdBuf (p : List Byte) (s : State) : (enqueue p s).cmdBuf = s.cmdBuf := rfl
@[simp] theorem enqueue_cmdLen (p : List Byte) (s : State) : (enqueue p s).cmdLen = s.cmdLen := rfl
@[simp] theorem enqueue_pause (p : List Byte) (s : State) : (enqueue p s).pause = s.pause := rfl
@[simp] theorem enqueue_mmode (p : List Byte) (s : State) : (enqueue p s).mmode = s.mmode := rfl
@[simp] theorem enqueue_action (p : List Byte) (s : State) : (enqueue p s).action = s.action := rfl
@[simp] theorem enqueue_absX (p : List Byte) (s : State) : (enqueue p s).absX = s.absX := rfl
@[simp] theorem enqueue_absY (p : List Byte) (s : State) : (enqueue p s).absY = s.absY := rfl
@[simp] theorem enqueue_maxX (p : List Byte) (s : State) : (enqueue p s).maxX = s.maxX := rfl
@[simp] theorem enqueue_maxY (p : List Byte) (s : State) : (enqueue p s).maxY = s.maxY := rfl
@[simp] theorem enqueue_accX (p : List Byte) (s : State) : (enqueue p s).accX = s.accX := rfl
@[simp] theorem enqueue_accY (p : List Byte) (s : State) : (enqueue p s).accY = s.accY := rfl
@[simp] theorem enqueue_deltaX (p : List Byte) (s : State) : (enqueue p s).deltaX = s.deltaX := rfl
@[simp] theorem enqueue_deltaY (p : List Byte) (s : State) : (enqueue p s).deltaY = s.deltaY := rfl
@[simp] theorem enqueue_scaleX (p : List Byte) (s : State) : (enqueue p s).scaleX = s.scaleX := rfl
@[simp] theorem enqueue_scaleY (p : List Byte) (s : State) : (enqueue p s).scaleY = s.scaleY := rfl
@[simp] theorem enqueue_thrX (p : List Byte) (s : State) : (enqueue p s).thrX = s.thrX := rfl
@[simp] theorem enqueue_thrY (p : List Byte) (s : State) : (enqueue p s).thrY = s.thrY := rfl
@[simp] theorem enqueue_kcX (p : List Byte) (s : State) : (enqueue p s).kcX = s.kcX := rfl
@[simp] theorem enqueue_kcY (p : List Byte) (s : State) : (enqueue p s).kcY = s.kcY := rfl
@[simp] theorem enqueue_ysign (p : List Byte) (s : State) : (enqueue p s).ysign = s.ysign := rfl
@[simp] theorem enqueue_btnL (p : List Byte) (s : State) : (enqueue p s).btnL = s.btnL := rfl
@[simp] theorem enqueue_btnR (p : List Byte) (s : State) : (enqueue p s).btnR = s.btnR := rfl
@[simp] theorem enqueue_btnLPrev (p : List Byte) (s : State) : (enqueue p s).btnLPrev = s.btnLPrev := rfl
@[simp] theorem enqueue_btnRPrev (p : List Byte) (s : State) : (enqueue p s).btnRPrev = s.btnRPrev := rfl
@[simp] theorem enqueue_absPrevMask (p : List Byte) (s : State) : (enqueue p s).absPrevMask = s.absPrevMask := rfl
@[simp] theorem enqueue_jmode (p : List Byte) (s : State) : (enqueue p s).jmode = s.jmode := rfl
@[simp] theorem enqueue_jcur0 (p : List Byte) (s : State) : (enqueue p s).jcur0 = s.jcur0 := rfl
@[simp] theorem enqueue_jcur1 (p : List Byte) (s : State) : (enqueue p s).jcur1 = s.jcur1 := rfl
@[simp] theorem enqueue_jprev0 (p : List Byte) (s : State) : (enqueue p s).jprev0 = s.jprev0 := rfl
@[simp] theorem enqueue_jprev1 (p : List Byte) (s : State) : (enqueue p s).jprev1 = s.jprev1 := rfl
@[simp] theorem enqueue_jrate (p : List Byte) (s : State) : (enqueue p s).jrate = s.jrate := rfl
@[simp] theorem enqueue_keyState (p : List Byte) (s : State) : (enqueue p s).keyState = s.keyState := rfl
@[simp] theorem enqueue_booting (p : List Byte) (s : State) : (enqueue p s).booting = s.booting := rfl
@[simp] theorem enqueue_mdis (p : List Byte) (s : State) : (enqueue p s).mdis = s.mdis := rfl
@[simp] theorem enqueue_jdis (p : List Byte) (s : State) : (enqueue p s).jdis = s.jdis := rfl
@[simp] theorem enqueue_both (p : List Byte) (s : State) : (enqueue p s).both = s.both := rfl
@[simp] theorem enqueue_medr (p : List Byte) (s : State) : (enqueue p s).medr = s.medr := rfl
@[simp] theorem enqueue_timerArmed (p : List Byte) (s : State) : (enqueue p s).timerArmed = s.timerArmed := rfl
@[simp] theorem enqueue_clock (p : List Byte) (s : State) : (enqueue p s).clock = s.clock := rfl

/-- Under the one delay policy the spec defines, the delayed path is the plain one (R75). -/
@[simp] theorem enqueueDelayed_eq (d : Nat) (p : List Byte) (s : State) : enqueueDelayed d p s = enqueue p s := by
  unfold enqueueDelayed
  cases s.cfg.delayPolicy
  rfl

/-! ## `absReport`: the FIFO and ABS_PREV_MASK -/

@[simp] theorem absReport_cfg (s : State) : (absReport s).cfg = s.cfg := rfl
@[simp] theorem absReport_inputs (s : State) : (absReport s).inputs = s.inputs := rfl
@[simp] theorem absReport_outputs (s : State) : (absReport s).outputs = s.outputs := rfl
@[simp] theorem absReport_freeCount (s : State) : (absReport s).freeCount = s.freeCount := rfl
@[simp] theorem absReport_cmdBuf (s : State) : (absReport s).cmdBuf = s.cmdBuf := rfl
@[simp] theorem absReport_cmdLen (s : State) : (absReport s).cmdLen = s.cmdLen := rfl
@[simp] theorem absReport_pause (s : State) : (absReport s).pause = s.pause := rfl
@[simp] theorem absReport_mmode (s : State) : (absReport s).mmode = s.mmode := rfl
@[simp] theorem absReport_action (s : State) : (absReport s).action = s.action := rfl
@[simp] theorem absReport_absX (s : State) : (absReport s).absX = s.absX := rfl
@[simp] theorem absReport_absY (s : State) : (absReport s).absY = s.absY := rfl
@[simp] theorem absReport_maxX (s : State) : (absReport s).maxX = s.maxX := rfl
@[simp] theorem absReport_maxY (s : State) : (absReport s).maxY = s.maxY := rfl
@[simp] theorem absReport_accX (s : State) : (absReport s).accX = s.accX := rfl
@[simp] theorem absReport_accY (s : State) : (absReport s).accY = s.accY := rfl
@[simp] theorem absReport_deltaX (s : State) : (absReport s).deltaX = s.deltaX := rfl
@[simp] theorem absReport_deltaY (s : State) : (absReport s).deltaY = s.deltaY := rfl
@[simp] theorem absReport_scaleX (s : State) : (absReport s).scaleX = s.scaleX := rfl
@[simp] theorem absReport_scaleY (s : State) : (absReport s).scaleY = s.scaleY := rfl
@[simp] theorem absReport_thrX (s : State) : (absReport s).thrX = s.thrX := rfl
@[simp] theorem absReport_thrY (s : State) : (absReport s).thrY = s.thrY := rfl
@[simp] theorem absReport_kcX (s : State) : (absReport s).kcX = s.kcX := rfl
@[simp] theorem absReport_kcY (s : State) : (absReport s).kcY = s.kcY := rfl
@[simp] theorem absReport_ysign (s : State) : (absReport s).ysign = s.ysign := rfl
@[simp] theorem absReport_btnL (s : State) : (absReport s).btnL = s.btnL := rfl
@[simp] theorem absReport_btnR (s : State) : (absReport s).btnR = s.btnR := rfl
@[simp] theorem absReport_btnLPrev (s : State) : (absReport s).btnLPrev = s.btnLPrev := rfl
@[simp] theorem absReport_btnRPrev (s : State) : (absReport s).btnRPrev = s.btnRPrev := rfl
@[simp] theorem absReport_jmode (s : State) : (absReport s).jmode = s.jmode := rfl
@[simp] theorem absReport_jcur0 (s : State) : (absReport s).jcur0 = s.jcur0 := rfl
@[simp] theorem absReport_jcur1 (s : State) : (absReport s).jcur1 = s.jcur1 := rfl
@[simp] theorem absReport_jprev0 (s : State) : (absReport s).jprev0 = s.jprev0 := rfl
@[simp] theorem absReport_jprev1 (s : State) : (absReport s).jprev1 = s.jprev1 := rfl
@[simp] theorem absReport_jrate (s : State) : (absReport s).jrate = s.jrate := rfl
@[simp] theorem absReport_keyState (s : State) : (absReport s).keyState = s.keyState := rfl
@[simp] theorem absReport_booting (s : State) : (absReport s).booting = s.booting := rfl
@[simp] theorem absReport_mdis (s : State) : (absReport s).mdis = s.mdis := rfl
@[simp] theorem absReport_jdis (s : State) : (absReport s).jdis = s.jdis := rfl
@[simp] theorem absReport_both (s : State) : (absReport s).both = s.both := rfl
@[simp] theorem absReport_medr (s : State) : (absReport s).medr = s.medr := rfl
@[simp] theorem absReport_timerArmed (s : State) : (absReport s).timerArmed = s.timerArmed := rfl
@[simp] theorem absReport_clock (s : State) : (absReport s).clock = s.clock := rfl
@[simp] theorem absReport_absPrevMask (s : State) :
    (absReport s).absPrevMask = buttonLevels s.btnL s.btnR ^^^ 0b1111 := rfl

/-! ## `clearDelta`, `latchButtons`, `takeMotion`, `clampPos`: what they write -/

@[simp] theorem clearDelta_deltaX (s : State) : (clearDelta s).deltaX = 0 := rfl
@[simp] theorem clearDelta_deltaY (s : State) : (clearDelta s).deltaY = 0 := rfl
@[simp] theorem latchButtons_btnLPrev (s : State) : (latchButtons s).btnLPrev = s.btnL := rfl
@[simp] theorem latchButtons_btnRPrev (s : State) : (latchButtons s).btnRPrev = s.btnR := rfl
@[simp] theorem takeMotion_accX (s : State) : (takeMotion s).accX = 0 := rfl
@[simp] theorem takeMotion_accY (s : State) : (takeMotion s).accY = 0 := rfl
@[simp] theorem clampPos_absX (s : State) : (clampPos s).absX = umin16 s.absX s.maxX := rfl
@[simp] theorem clampPos_absY (s : State) : (clampPos s).absY = umin16 s.absY s.maxY := rfl

/-! ## `clearDelta`: what it keeps -/

@[simp] theorem clearDelta_cfg (s : State) : (clearDelta s).cfg = s.cfg := rfl
@[simp] theorem clearDelta_inputs (s : State) : (clearDelta s).inputs = s.inputs := rfl
@[simp] theorem clearDelta_outputs (s : State) : (clearDelta s).outputs = s.outputs := rfl
@[simp] theorem clearDelta_freeCount (s : State) : (clearDelta s).freeCount = s.freeCount := rfl
@[simp] theorem clearDelta_cmdBuf (s : State) : (clearDelta s).cmdBuf = s.cmdBuf := rfl
@[simp] theorem clearDelta_cmdLen (s : State) : (clearDelta s).cmdLen = s.cmdLen := rfl
@[simp] theorem clearDelta_out (s : State) : (clearDelta s).out = s.out := rfl
@[simp] theorem clearDelta_pause (s : State) : (clearDelta s).pause = s.pause := rfl
@[simp] theorem clearDelta_mmode (s : State) : (clearDelta s).mmode = s.mmode := rfl
@[simp] theorem clearDelta_action (s : State) : (clearDelta s).action = s.action := rfl
@[simp] theorem clearDelta_absX (s : State) : (clearDelta s).absX = s.absX := rfl
@[simp] theorem clearDelta_absY (s : State) : (clearDelta s).absY = s.absY := rfl
@[simp] theorem clearDelta_maxX (s : State) : (clearDelta s).maxX = s.maxX := rfl
@[simp] theorem clearDelta_maxY (s : State) : (clearDelta s).maxY = s.maxY := rfl
@[simp] theorem clearDelta_accX (s : State) : (clearDelta s).accX = s.accX := rfl
@[simp] theorem clearDelta_accY (s : State) : (clearDelta s).accY = s.accY := rfl
@[simp] theorem clearDelta_scaleX (s : State) : (clearDelta s).scaleX = s.scaleX := rfl
@[simp] theorem clearDelta_scaleY (s : State) : (clearDelta s).scaleY = s.scaleY := rfl
@[simp] theorem clearDelta_thrX (s : State) : (clearDelta s).thrX = s.thrX := rfl
@[simp] theorem clearDelta_thrY (s : State) : (clearDelta s).thrY = s.thrY := rfl
@[simp] theorem clearDelta_kcX (s : State) : (clearDelta s).kcX = s.kcX := rfl
@[simp] theorem clearDelta_kcY (s : State) : (clearDelta s).kcY = s.kcY := rfl
@[simp] theorem clearDelta_ysign (s : State) : (clearDelta s).ysign = s.ysign := rfl
@[simp] theorem clearDelta_btnL (s : State) : (clearDelta s).btnL = s.btnL := rfl
@[simp] theorem clearDelta_btnR (s : State) : (clearDelta s).btnR = s.btnR := rfl
@[simp] theorem clearDelta_btnLPrev (s : State) : (clearDelta s).btnLPrev = s.btnLPrev := rfl
@[simp] theorem clearDelta_btnRPrev (s : State) : (clearDelta s).btnRPrev = s.btnRPrev := rfl
@[simp] theorem clearDelta_absPrevMask (s : State) : (clearDelta s).absPrevMask = s.absPrevMask := rfl
@[simp] theorem clearDelta_jmode (s : State) : (clearDelta s).jmode = s.jmode := rfl
@[simp] theorem clearDelta_jcur0 (s : State) : (clearDelta s).jcur0 = s.jcur0 := rfl
@[simp] theorem clearDelta_jcur1 (s : State) : (clearDelta s).jcur1 = s.jcur1 := rfl
@[simp] theorem clearDelta_jprev0 (s : State) : (clearDelta s).jprev0 = s.jprev0 := rfl
@[simp] theorem clearDelta_jprev1 (s : State) : (clearDelta s).jprev1 = s.jprev1 := rfl
@[simp] theorem clearDelta_jrate (s : State) : (clearDelta s).jrate = s.jrate := rfl
@[simp] theorem clearDelta_keyState (s : State) : (clearDelta s).keyState = s.keyState := rfl
@[simp] theorem clearDelta_booting (s : State) : (clearDelta s).booting = s.booting := rfl
@[simp] theorem clearDelta_mdis (s : State) : (clearDelta s).mdis = s.mdis := rfl
@[simp] theorem clearDelta_jdis (s : State) : (clearDelta s).jdis = s.jdis := rfl
@[simp] theorem clearDelta_both (s : State) : (clearDelta s).both = s.both := rfl
@[simp] theorem clearDelta_medr (s : State) : (clearDelta s).medr = s.medr := rfl
@[simp] theorem clearDelta_timerArmed (s : State) : (clearDelta s).timerArmed = s.timerArmed := rfl
@[simp] theorem clearDelta_clock (s : State) : (clearDelta s).clock = s.clock := rfl

/-! ## `latchButtons`: what it keeps -/

@[simp] theorem latchButtons_cfg (s : State) : (latchButtons s).cfg = s.cfg := rfl
@[simp] theorem latchButtons_inputs (s : State) : (latchButtons s).inputs = s.inputs := rfl
@[simp] theorem latchButtons_outputs (s : State) : (latchButtons s).outputs = s.outputs := rfl
@[simp] theorem latchButtons_freeCount (s : State) : (latchButtons s).freeCount = s.freeCount := rfl
@[simp] theorem latchButtons_cmdBuf (s : State) : (latchButtons s).cmdBuf = s.cmdBuf := rfl
@[simp] theorem latchButtons_cmdLen (s : State) : (latchButtons s).cmdLen = s.cmdLen := rfl
@[simp] theorem latchButtons_out (s : State) : (latchButtons s).out = s.out := rfl
@[simp] theorem latchButtons_pause (s : State) : (latchButtons s).pause = s.pause := rfl
@[simp] theorem latchButtons_mmode (s : State) : (latchButtons s).mmode = s.mmode := rfl
@[simp] theorem latchButtons_action (s : State) : (latchButtons s).action = s.action := rfl
@[simp] theorem latchButtons_absX (s : State) : (latchButtons s).absX = s.absX := rfl
@[simp] theorem latchButtons_absY (s : State) : (latchButtons s).absY = s.absY := rfl
@[simp] theorem latchButtons_maxX (s : State) : (latchButtons s).maxX = s.maxX := rfl
@[simp] theorem latchButtons_maxY (s : State) : (latchButtons s).maxY = s.maxY := rfl
@[simp] theorem latchButtons_accX (s : State) : (latchButtons s).accX = s.accX := rfl
@[simp] theorem latchButtons_accY (s : State) : (latchButtons s).accY = s.accY := rfl
@[simp] theorem latchButtons_deltaX (s : State) : (latchButtons s).deltaX = s.deltaX := rfl
@[simp] theorem latchButtons_deltaY (s : State) : (latchButtons s).deltaY = s.deltaY := rfl
@[simp] theorem latchButtons_scaleX (s : State) : (latchButtons s).scaleX = s.scaleX := rfl
@[simp] theorem latchButtons_scaleY (s : State) : (latchButtons s).scaleY = s.scaleY := rfl
@[simp] theorem latchButtons_thrX (s : State) : (latchButtons s).thrX = s.thrX := rfl
@[simp] theorem latchButtons_thrY (s : State) : (latchButtons s).thrY = s.thrY := rfl
@[simp] theorem latchButtons_kcX (s : State) : (latchButtons s).kcX = s.kcX := rfl
@[simp] theorem latchButtons_kcY (s : State) : (latchButtons s).kcY = s.kcY := rfl
@[simp] theorem latchButtons_ysign (s : State) : (latchButtons s).ysign = s.ysign := rfl
@[simp] theorem latchButtons_btnL (s : State) : (latchButtons s).btnL = s.btnL := rfl
@[simp] theorem latchButtons_btnR (s : State) : (latchButtons s).btnR = s.btnR := rfl
@[simp] theorem latchButtons_absPrevMask (s : State) : (latchButtons s).absPrevMask = s.absPrevMask := rfl
@[simp] theorem latchButtons_jmode (s : State) : (latchButtons s).jmode = s.jmode := rfl
@[simp] theorem latchButtons_jcur0 (s : State) : (latchButtons s).jcur0 = s.jcur0 := rfl
@[simp] theorem latchButtons_jcur1 (s : State) : (latchButtons s).jcur1 = s.jcur1 := rfl
@[simp] theorem latchButtons_jprev0 (s : State) : (latchButtons s).jprev0 = s.jprev0 := rfl
@[simp] theorem latchButtons_jprev1 (s : State) : (latchButtons s).jprev1 = s.jprev1 := rfl
@[simp] theorem latchButtons_jrate (s : State) : (latchButtons s).jrate = s.jrate := rfl
@[simp] theorem latchButtons_keyState (s : State) : (latchButtons s).keyState = s.keyState := rfl
@[simp] theorem latchButtons_booting (s : State) : (latchButtons s).booting = s.booting := rfl
@[simp] theorem latchButtons_mdis (s : State) : (latchButtons s).mdis = s.mdis := rfl
@[simp] theorem latchButtons_jdis (s : State) : (latchButtons s).jdis = s.jdis := rfl
@[simp] theorem latchButtons_both (s : State) : (latchButtons s).both = s.both := rfl
@[simp] theorem latchButtons_medr (s : State) : (latchButtons s).medr = s.medr := rfl
@[simp] theorem latchButtons_timerArmed (s : State) : (latchButtons s).timerArmed = s.timerArmed := rfl
@[simp] theorem latchButtons_clock (s : State) : (latchButtons s).clock = s.clock := rfl

/-! ## `takeMotion`: what it keeps -/

@[simp] theorem takeMotion_cfg (s : State) : (takeMotion s).cfg = s.cfg := rfl
@[simp] theorem takeMotion_inputs (s : State) : (takeMotion s).inputs = s.inputs := rfl
@[simp] theorem takeMotion_outputs (s : State) : (takeMotion s).outputs = s.outputs := rfl
@[simp] theorem takeMotion_freeCount (s : State) : (takeMotion s).freeCount = s.freeCount := rfl
@[simp] theorem takeMotion_cmdBuf (s : State) : (takeMotion s).cmdBuf = s.cmdBuf := rfl
@[simp] theorem takeMotion_cmdLen (s : State) : (takeMotion s).cmdLen = s.cmdLen := rfl
@[simp] theorem takeMotion_out (s : State) : (takeMotion s).out = s.out := rfl
@[simp] theorem takeMotion_pause (s : State) : (takeMotion s).pause = s.pause := rfl
@[simp] theorem takeMotion_mmode (s : State) : (takeMotion s).mmode = s.mmode := rfl
@[simp] theorem takeMotion_action (s : State) : (takeMotion s).action = s.action := rfl
@[simp] theorem takeMotion_absX (s : State) : (takeMotion s).absX = s.absX := rfl
@[simp] theorem takeMotion_absY (s : State) : (takeMotion s).absY = s.absY := rfl
@[simp] theorem takeMotion_maxX (s : State) : (takeMotion s).maxX = s.maxX := rfl
@[simp] theorem takeMotion_maxY (s : State) : (takeMotion s).maxY = s.maxY := rfl
@[simp] theorem takeMotion_scaleX (s : State) : (takeMotion s).scaleX = s.scaleX := rfl
@[simp] theorem takeMotion_scaleY (s : State) : (takeMotion s).scaleY = s.scaleY := rfl
@[simp] theorem takeMotion_thrX (s : State) : (takeMotion s).thrX = s.thrX := rfl
@[simp] theorem takeMotion_thrY (s : State) : (takeMotion s).thrY = s.thrY := rfl
@[simp] theorem takeMotion_kcX (s : State) : (takeMotion s).kcX = s.kcX := rfl
@[simp] theorem takeMotion_kcY (s : State) : (takeMotion s).kcY = s.kcY := rfl
@[simp] theorem takeMotion_ysign (s : State) : (takeMotion s).ysign = s.ysign := rfl
@[simp] theorem takeMotion_btnL (s : State) : (takeMotion s).btnL = s.btnL := rfl
@[simp] theorem takeMotion_btnR (s : State) : (takeMotion s).btnR = s.btnR := rfl
@[simp] theorem takeMotion_btnLPrev (s : State) : (takeMotion s).btnLPrev = s.btnLPrev := rfl
@[simp] theorem takeMotion_btnRPrev (s : State) : (takeMotion s).btnRPrev = s.btnRPrev := rfl
@[simp] theorem takeMotion_absPrevMask (s : State) : (takeMotion s).absPrevMask = s.absPrevMask := rfl
@[simp] theorem takeMotion_jmode (s : State) : (takeMotion s).jmode = s.jmode := rfl
@[simp] theorem takeMotion_jcur0 (s : State) : (takeMotion s).jcur0 = s.jcur0 := rfl
@[simp] theorem takeMotion_jcur1 (s : State) : (takeMotion s).jcur1 = s.jcur1 := rfl
@[simp] theorem takeMotion_jprev0 (s : State) : (takeMotion s).jprev0 = s.jprev0 := rfl
@[simp] theorem takeMotion_jprev1 (s : State) : (takeMotion s).jprev1 = s.jprev1 := rfl
@[simp] theorem takeMotion_jrate (s : State) : (takeMotion s).jrate = s.jrate := rfl
@[simp] theorem takeMotion_keyState (s : State) : (takeMotion s).keyState = s.keyState := rfl
@[simp] theorem takeMotion_booting (s : State) : (takeMotion s).booting = s.booting := rfl
@[simp] theorem takeMotion_mdis (s : State) : (takeMotion s).mdis = s.mdis := rfl
@[simp] theorem takeMotion_jdis (s : State) : (takeMotion s).jdis = s.jdis := rfl
@[simp] theorem takeMotion_both (s : State) : (takeMotion s).both = s.both := rfl
@[simp] theorem takeMotion_medr (s : State) : (takeMotion s).medr = s.medr := rfl
@[simp] theorem takeMotion_timerArmed (s : State) : (takeMotion s).timerArmed = s.timerArmed := rfl
@[simp] theorem takeMotion_clock (s : State) : (takeMotion s).clock = s.clock := rfl

/-! ## `clampPos`: what it keeps -/

@[simp] theorem clampPos_cfg (s : State) : (clampPos s).cfg = s.cfg := rfl
@[simp] theorem clampPos_inputs (s : State) : (clampPos s).inputs = s.inputs := rfl
@[simp] theorem clampPos_outputs (s : State) : (clampPos s).outputs = s.outputs := rfl
@[simp] theorem clampPos_freeCount (s : State) : (clampPos s).freeCount = s.freeCount := rfl
@[simp] theorem clampPos_cmdBuf (s : State) : (clampPos s).cmdBuf = s.cmdBuf := rfl
@[simp] theorem clampPos_cmdLen (s : State) : (clampPos s).cmdLen = s.cmdLen := rfl
@[simp] theorem clampPos_out (s : State) : (clampPos s).out = s.out := rfl
@[simp] theorem clampPos_pause (s : State) : (clampPos s).pause = s.pause := rfl
@[simp] theorem clampPos_mmode (s : State) : (clampPos s).mmode = s.mmode := rfl
@[simp] theorem clampPos_action (s : State) : (clampPos s).action = s.action := rfl
@[simp] theorem clampPos_maxX (s : State) : (clampPos s).maxX = s.maxX := rfl
@[simp] theorem clampPos_maxY (s : State) : (clampPos s).maxY = s.maxY := rfl
@[simp] theorem clampPos_accX (s : State) : (clampPos s).accX = s.accX := rfl
@[simp] theorem clampPos_accY (s : State) : (clampPos s).accY = s.accY := rfl
@[simp] theorem clampPos_deltaX (s : State) : (clampPos s).deltaX = s.deltaX := rfl
@[simp] theorem clampPos_deltaY (s : State) : (clampPos s).deltaY = s.deltaY := rfl
@[simp] theorem clampPos_scaleX (s : State) : (clampPos s).scaleX = s.scaleX := rfl
@[simp] theorem clampPos_scaleY (s : State) : (clampPos s).scaleY = s.scaleY := rfl
@[simp] theorem clampPos_thrX (s : State) : (clampPos s).thrX = s.thrX := rfl
@[simp] theorem clampPos_thrY (s : State) : (clampPos s).thrY = s.thrY := rfl
@[simp] theorem clampPos_kcX (s : State) : (clampPos s).kcX = s.kcX := rfl
@[simp] theorem clampPos_kcY (s : State) : (clampPos s).kcY = s.kcY := rfl
@[simp] theorem clampPos_ysign (s : State) : (clampPos s).ysign = s.ysign := rfl
@[simp] theorem clampPos_btnL (s : State) : (clampPos s).btnL = s.btnL := rfl
@[simp] theorem clampPos_btnR (s : State) : (clampPos s).btnR = s.btnR := rfl
@[simp] theorem clampPos_btnLPrev (s : State) : (clampPos s).btnLPrev = s.btnLPrev := rfl
@[simp] theorem clampPos_btnRPrev (s : State) : (clampPos s).btnRPrev = s.btnRPrev := rfl
@[simp] theorem clampPos_absPrevMask (s : State) : (clampPos s).absPrevMask = s.absPrevMask := rfl
@[simp] theorem clampPos_jmode (s : State) : (clampPos s).jmode = s.jmode := rfl
@[simp] theorem clampPos_jcur0 (s : State) : (clampPos s).jcur0 = s.jcur0 := rfl
@[simp] theorem clampPos_jcur1 (s : State) : (clampPos s).jcur1 = s.jcur1 := rfl
@[simp] theorem clampPos_jprev0 (s : State) : (clampPos s).jprev0 = s.jprev0 := rfl
@[simp] theorem clampPos_jprev1 (s : State) : (clampPos s).jprev1 = s.jprev1 := rfl
@[simp] theorem clampPos_jrate (s : State) : (clampPos s).jrate = s.jrate := rfl
@[simp] theorem clampPos_keyState (s : State) : (clampPos s).keyState = s.keyState := rfl
@[simp] theorem clampPos_booting (s : State) : (clampPos s).booting = s.booting := rfl
@[simp] theorem clampPos_mdis (s : State) : (clampPos s).mdis = s.mdis := rfl
@[simp] theorem clampPos_jdis (s : State) : (clampPos s).jdis = s.jdis := rfl
@[simp] theorem clampPos_both (s : State) : (clampPos s).both = s.both := rfl
@[simp] theorem clampPos_medr (s : State) : (clampPos s).medr = s.medr := rfl
@[simp] theorem clampPos_timerArmed (s : State) : (clampPos s).timerArmed = s.timerArmed := rfl
@[simp] theorem clampPos_clock (s : State) : (clampPos s).clock = s.clock := rfl

/-! ## `resetTo`: what no reset writes -/

@[simp] theorem resetTo_cfg (k : ResetKind) (s : State) : (s.resetTo k).cfg = s.cfg := rfl
@[simp] theorem resetTo_inputs (k : ResetKind) (s : State) : (s.resetTo k).inputs = s.inputs := rfl
@[simp] theorem resetTo_out_buf (k : ResetKind) (s : State) : (s.resetTo k).out.buf = s.out.buf := rfl

end Sys2Proof.Machine
end

