-- ==== Sys2Proof/Laws/Fifo.lean ====
section
/-! SUPPORT. What the FIFO operations do, said once: a push appends one byte to the queue, a packet appends all its bytes, a
pop takes the oldest, and `enqueue` offers (20_memory.md R72 to R76). -/

namespace Sys2Proof.Machine

/-- Two positions of one lap of a circular buffer are different slots. -/
theorem slot_ne {cap h k n : Nat} (hk : k < n) (hn : n - k < cap) : (h + k) % cap ≠ (h + n) % cap := by
  intro e
  have hd : (h + n - (h + k)) % cap = 0 := Nat.sub_mod_eq_zero_of_mod_eq e.symm
  rw [show h + n - (h + k) = n - k by omega, Nat.mod_eq_of_lt hn] at hd
  omega

section
variable {cap : Nat} {f : OutFifo}

@[simp] theorem OutFifo.push_head (b : Byte) : (f.push cap b).head = f.head := rfl
@[simp] theorem OutFifo.push_tail (b : Byte) : (f.push cap b).tail = (f.tail + 1) % cap := rfl
@[simp] theorem OutFifo.push_count (b : Byte) : (f.push cap b).count = f.count + 1 := rfl
@[simp] theorem OutFifo.push_buf (b : Byte) : (f.push cap b).buf = f.buf.set f.tail b := rfl
@[simp] theorem OutFifo.pushAll_nil : f.pushAll cap [] = f := rfl
@[simp] theorem OutFifo.pushAll_cons (b : Byte) (p : List Byte) :
    f.pushAll cap (b :: p) = (f.push cap b).pushAll cap p := rfl

theorem OutFifo.contents_length : (f.contents cap).length = f.count := by simp [OutFifo.contents]

theorem OutFifo.push_wf (h : FifoWf cap f) (hroom : f.count < cap) (b : Byte) : FifoWf cap (f.push cap b) where
  length := by simp [h.length]
  head := h.head
  count := hroom
  tail := by simp [h.tail, Nat.add_assoc]

theorem OutFifo.push_contents (h : FifoWf cap f) (hroom : f.count < cap) (b : Byte) :
    (f.push cap b).contents cap = f.contents cap ++ [b] := by
  have hlt : f.tail < f.buf.length := by
    rw [h.length, h.tail]
    exact Nat.mod_lt _ (by omega)
  simp only [OutFifo.contents, OutFifo.push_count, OutFifo.push_head, OutFifo.push_buf, List.range_succ, List.map_append]
  congr 1
  · apply List.map_congr_left
    intro k hk
    have hne : f.tail ≠ (f.head + k) % cap := by
      rw [h.tail]
      exact (slot_ne (List.mem_range.mp hk) (by omega)).symm
    simp [List.getD, List.getElem?_set_ne hne]
  · have ht := h.tail
    simp [List.getD, ← ht, hlt]

theorem OutFifo.pushAll_wf {p : List Byte} (h : FifoWf cap f) (hroom : f.count + p.length ≤ cap) :
    FifoWf cap (f.pushAll cap p) := by
  induction p generalizing f with
  | nil => exact h
  | cons b p ih =>
    simp only [List.length_cons] at hroom
    exact ih (OutFifo.push_wf h (by omega) b) (by simp; omega)

@[simp] theorem OutFifo.pushAll_head (p : List Byte) : (f.pushAll cap p).head = f.head := by
  induction p generalizing f with
  | nil => rfl
  | cons b p ih => simp [ih]

@[simp] theorem OutFifo.pushAll_count (p : List Byte) : (f.pushAll cap p).count = f.count + p.length := by
  induction p generalizing f with
  | nil => rfl
  | cons b p ih => simp [ih]; omega

@[simp] theorem OutFifo.pushAll_buf_length (p : List Byte) : (f.pushAll cap p).buf.length = f.buf.length := by
  induction p generalizing f with
  | nil => rfl
  | cons b p ih => simp [ih]

theorem OutFifo.pushAll_contents {p : List Byte} (h : FifoWf cap f) (hroom : f.count + p.length ≤ cap) :
    (f.pushAll cap p).contents cap = f.contents cap ++ p := by
  induction p generalizing f with
  | nil => simp
  | cons b p ih =>
    simp only [List.length_cons] at hroom
    rw [OutFifo.pushAll_cons, ih (OutFifo.push_wf h (by omega) b) (by simp; omega),
      OutFifo.push_contents h (by omega) b, List.append_assoc]
    rfl

theorem OutFifo.pushAll_tail {p : List Byte} (ht : f.tail < cap) :
    (f.pushAll cap p).tail = (f.tail + p.length) % cap := by
  induction p generalizing f with
  | nil => simp [Nat.mod_eq_of_lt ht]
  | cons b p ih =>
    have : (f.push cap b).tail < cap := Nat.mod_lt _ (by omega)
    rw [OutFifo.pushAll_cons, ih this]
    simp [Nat.add_assoc, Nat.add_comm 1]

theorem OutFifo.pushAll_slots {p : List Byte} (ht : f.tail < cap) {i : Nat}
    (hi : ∀ k, k < p.length → i ≠ (f.tail + k) % cap) : (f.pushAll cap p).buf[i]? = f.buf[i]? := by
  induction p generalizing f with
  | nil => rfl
  | cons b p ih =>
    have h0 : f.tail ≠ i := by
      have := hi 0 (by simp)
      rw [Nat.add_zero, Nat.mod_eq_of_lt ht] at this
      exact this.symm
    rw [OutFifo.pushAll_cons, ih (Nat.mod_lt _ (by omega))]
    · simp [List.getElem?_set_ne h0]
    · intro k hk
      have := hi (k + 1) (by simp; omega)
      simpa [Nat.add_assoc, Nat.add_comm 1] using this

theorem OutFifo.pop_wf (h : FifoWf cap f) (hpos : 0 < f.count) : FifoWf cap (f.pop cap) where
  length := h.length
  head := Nat.mod_lt _ (by have := h.head; omega)
  count := by have := h.count; simp only [OutFifo.pop]; omega
  tail := by
    simp only [OutFifo.pop, h.tail, Nat.mod_add_mod]
    congr 1
    omega

/-- A pop takes the oldest byte and leaves the rest in order (R76). -/
theorem OutFifo.pop_contents (h : FifoWf cap f) (hpos : 0 < f.count) :
    f.contents cap = f.front :: (f.pop cap).contents cap := by
  obtain ⟨n, hn⟩ : ∃ n, f.count = n + 1 := ⟨f.count - 1, by omega⟩
  simp only [OutFifo.contents, OutFifo.pop, OutFifo.front, hn, List.range_succ_eq_map, List.map_cons, List.map_map,
    Nat.add_zero, Nat.mod_eq_of_lt h.head, Nat.add_sub_cancel, Nat.mod_add_mod]
  congr 1
  apply List.map_congr_left
  intro k _
  simp [Nat.add_assoc, Nat.add_comm 1]

end

/-! ## `enqueue` -/

theorem admits_iff_room (s : State) {n : Nat} (hn : 0 < n) : admits s n = true ↔ Room s n := by
  simp only [admits, Room, Bool.and_eq_true, Bool.not_eq_true', decide_eq_true_eq, and_assoc]
  constructor
  · rintro ⟨a, b, c⟩
    exact ⟨a, b, by omega⟩
  · rintro ⟨a, b, c⟩
    exact ⟨a, b, by omega⟩

/-- Everything `enqueue` can do (R73): it appends the packet whole where there is room, else it changes nothing. -/
theorem enqueue_offers {s : State} {p : List Byte} (hp : 0 < p.length) (h : FifoWf s.cfg.outCap s.out) :
    Offers s (enqueue p s) p := by
  have ht : s.out.tail < s.cfg.outCap := by
    rw [h.tail]
    exact Nat.mod_lt _ (by have := h.head; omega)
  refine ⟨fun hr => ?_, fun hr => ?_⟩
  · have ha := (admits_iff_room s hp).2 hr
    exact {
      rest := rfl
      head := by simp [enqueue, ha]
      tail := by simp [enqueue, ha, OutFifo.pushAll_tail ht]
      count := by simp [enqueue, ha]
      unread := by simpa [State.unread, enqueue, ha] using OutFifo.pushAll_contents h hr.2.2
      slots := fun i hi => by simpa [enqueue, ha] using OutFifo.pushAll_slots ht hi }
  · have ha : admits s p.length = false := by
      rw [← Bool.not_eq_true, admits_iff_room s hp]
      exact hr
    simp [enqueue, ha]

/-- `enqueue` keeps the FIFO's form, whatever the packet. -/
theorem enqueue_fifoWf {s : State} {p : List Byte} (h : FifoWf s.cfg.outCap s.out) :
    FifoWf (enqueue p s).cfg.outCap (enqueue p s).out := by
  simp only [enqueue]
  split
  · rename_i ha
    simp only [admits, Bool.and_eq_true, decide_eq_true_eq] at ha
    have := h.count
    exact OutFifo.pushAll_wf h (by omega)
  · exact h

/-- A packet offered while Booting is dropped (R320). -/
theorem enqueue_while_booting {s : State} {p : List Byte} (h : s.booting = true) : enqueue p s = s := by
  have ha : admits s p.length = false := by simp [admits, h]
  simp only [enqueue, ha]
  rfl

/-- `absReport` offers the packet of R149 and advances ABS_PREV_MASK whether or not it is admitted. -/
theorem absReport_offers {s : State} (h : FifoWf s.cfg.outCap s.out) :
    Offers { s with absPrevMask := buttonLevels s.btnL s.btnR ^^^ 0b1111 } (absReport s)
      (absPacket (buttonLevels s.btnL s.btnR &&& s.absPrevMask) s.absX s.absY) :=
  enqueue_offers (by simp [absPacket]) h

end Sys2Proof.Machine
end

