-- ==== Sys2Proof/Laws/Engine.lean ====
section
/-! SUPPORT. What the report engines can do to the state, said once: `Reports s t` holds of every step of the mouse and the
joystick engines, and each engine operation has one lemma that says so (44_mouse_report_engine.md, 45_joystick_key_engine.md). -/

namespace Sys2Proof.Machine

/-- `t` is `s` after some engine work: only the FIFO, the residual, the edge history and the last-sent joystick masks may
differ, the FIFO keeps its form, while Booting it is untouched, and a last-sent mask is kept or takes the current mask. -/
structure Reports (s t : State) : Prop where
  rest : t = { s with out := t.out, deltaX := t.deltaX, deltaY := t.deltaY, btnLPrev := t.btnLPrev,
                      btnRPrev := t.btnRPrev, absPrevMask := t.absPrevMask, jprev0 := t.jprev0, jprev1 := t.jprev1 }
  fifo : FifoWf s.cfg.outCap s.out → FifoWf s.cfg.outCap t.out
  boot : s.booting = true → t.out = s.out
  stick0 : t.jprev0 = s.jprev0 ∨ t.jprev0 = s.jcur0
  stick1 : t.jprev1 = s.jprev1 ∨ t.jprev1 = s.jcur1

theorem Reports.refl (s : State) : Reports s s := ⟨rfl, id, fun _ => rfl, .inl rfl, .inl rfl⟩

theorem Reports.cfg_eq {s t : State} (h : Reports s t) : t.cfg = s.cfg := by rw [h.rest]

theorem Reports.booting_eq {s t : State} (h : Reports s t) : t.booting = s.booting := by rw [h.rest]

theorem Reports.trans {s t u : State} (h : Reports s t) (k : Reports t u) : Reports s u where
  rest := by
    refine k.rest.trans ?_
    rw [h.rest]
  fifo := fun w => h.cfg_eq ▸ k.fifo (h.cfg_eq ▸ h.fifo w)
  boot := fun b => (k.boot (h.booting_eq ▸ b)).trans (h.boot b)
  stick0 := by
    have e : t.jcur0 = s.jcur0 := by rw [h.rest]
    rcases k.stick0 with a | a
    · exact a ▸ h.stick0
    · exact .inr (a.trans e)
  stick1 := by
    have e : t.jcur1 = s.jcur1 := by rw [h.rest]
    rcases k.stick1 with a | a
    · exact a ▸ h.stick1
    · exact .inr (a.trans e)

/-- An engine operation that touches neither the FIFO nor the last-sent masks. -/
theorem Reports.of_quiet {s t : State}
    (h : t = { s with deltaX := t.deltaX, deltaY := t.deltaY, btnLPrev := t.btnLPrev, btnRPrev := t.btnRPrev,
                      absPrevMask := t.absPrevMask }) : Reports s t where
  rest := by rw [h]
  fifo := fun w => by rw [h]; exact w
  boot := fun _ => by rw [h]
  stick0 := .inl (by rw [h])
  stick1 := .inl (by rw [h])

theorem enqueue_reports (p : List Byte) (s : State) : Reports s (enqueue p s) where
  rest := rfl
  fifo := fun w => enqueue_fifoWf w
  boot := fun b => by rw [enqueue_while_booting b]
  stick0 := .inl rfl
  stick1 := .inl rfl

theorem clearDelta_reports (s : State) : Reports s (clearDelta s) := .of_quiet rfl

theorem latchButtons_reports (s : State) : Reports s (latchButtons s) := .of_quiet rfl

theorem absReport_reports (s : State) : Reports s (absReport s) :=
  Reports.trans (t := { s with absPrevMask := buttonLevels s.btnL s.btnR ^^^ 0b1111 }) (.of_quiet rfl)
    (enqueue_reports _ _)

theorem offerLeftKey_reports (s : State) : Reports s (offerLeftKey s) := by
  unfold offerLeftKey
  split
  · exact enqueue_reports _ _
  · exact .refl s

theorem offerRightKey_reports (s : State) : Reports s (offerRightKey s) := by
  unfold offerRightKey
  split
  · exact enqueue_reports _ _
  · exact .refl s

theorem keysReport_reports (s : State) : Reports s (keysReport s) :=
  (((offerLeftKey_reports s).trans (offerRightKey_reports _)).trans (latchButtons_reports _)).trans (clearDelta_reports _)

theorem forcedAbsReport_reports (s : State) : Reports s (forcedAbsReport s) := by
  unfold forcedAbsReport
  split
  · exact absReport_reports s
  · exact .refl s

/-! ## Relative mode -/

/-- Everything `relStep` can do: nothing where no packet is owed, else one packet offered, DELTA reduced by the clamped
motion and PREV latched (R241). -/
theorem relStep_cases (s : State) :
    (relDue s = false ∧ relStep s = none) ∨
    (relDue s = true ∧ relStep s = some (latchButtons { enqueue (relPacket s) s with
      deltaX := s32 (sext32 s.deltaX - relClamp s.deltaX), deltaY := s32 (sext32 s.deltaY - relClamp s.deltaY) })) := by
  unfold relStep
  cases h : relDue s <;> simp

theorem relStep_reports {s t : State} (h : relStep s = some t) : Reports s t := by
  rcases relStep_cases s with ⟨-, e⟩ | ⟨-, e⟩
  · rw [e] at h
    cases h
  · rw [e] at h
    cases h
    exact ((enqueue_reports (relPacket s) s).trans (.of_quiet rfl)).trans (latchButtons_reports _)

theorem relLoop_reports (n : Nat) (s : State) : Reports s (relLoop n s) := by
  induction n generalizing s with
  | zero => exact .refl s
  | succ n ih =>
    unfold relLoop
    split
    · exact .refl s
    · rename_i t ht
      exact (relStep_reports ht).trans (ih t)

theorem relReport_reports (s : State) : Reports s (relReport s) := by
  unfold relReport
  split
  · cases h : relStep s with
    | none => exact .refl s
    | some t => exact relStep_reports h
  · exact relLoop_reports _ s

/-! ## Cursor-key mode -/

theorem cursorStepX_reports (s : State) : Reports s (cursorStepX s) := by
  unfold cursorStepX
  split
  · exact (enqueue_reports _ _).trans (.of_quiet rfl)
  · split
    · exact (enqueue_reports _ _).trans (.of_quiet rfl)
    · exact .refl s

theorem cursorStepY_reports (s : State) : Reports s (cursorStepY s) := by
  unfold cursorStepY
  split
  · exact (enqueue_reports _ _).trans (.of_quiet rfl)
  · split
    · exact (enqueue_reports _ _).trans (.of_quiet rfl)
    · exact .refl s

theorem cursorButtonL_reports (s : State) : Reports s (cursorButtonL s) := by
  unfold cursorButtonL
  split
  · exact (enqueue_reports _ _).trans (.of_quiet rfl)
  · exact .refl s

theorem cursorButtonR_reports (s : State) : Reports s (cursorButtonR s) := by
  unfold cursorButtonR
  split
  · exact (enqueue_reports _ _).trans (.of_quiet rfl)
  · exact .refl s

theorem cursorStep_reports (s : State) : Reports s (cursorStep s) :=
  (((cursorStepX_reports s).trans (cursorStepY_reports _)).trans (cursorButtonL_reports _)).trans (cursorButtonR_reports _)

theorem cursorLoop_reports (n : Nat) (s : State) : Reports s (cursorLoop n s) := by
  induction n generalizing s with
  | zero => exact .refl s
  | succ n ih =>
    unfold cursorLoop
    split
    · exact (cursorStep_reports s).trans (ih _)
    · exact .refl s

/-! ## The mouse half and the joystick half of a tick -/

theorem modeStep_reports (s : State) : Reports s (modeStep s) := by
  unfold modeStep
  split
  · exact relReport_reports s
  · exact cursorLoop_reports _ s
  · exact clearDelta_reports s
  · exact clearDelta_reports s

theorem mouseReport_reports (s : State) : Reports s (mouseReport s) := by
  unfold mouseReport
  split
  · exact keysReport_reports s
  · exact ((forcedAbsReport_reports s).trans (modeStep_reports _)).trans (latchButtons_reports _)

theorem joyAutoStick0_reports (s : State) : Reports s (joyAutoStick0 s) := by
  unfold joyAutoStick0
  split
  · have e := enqueue_reports [0xFE, s.jcur0] s
    exact ⟨rfl, e.fifo, e.boot, .inr rfl, .inl rfl⟩
  · exact .refl s

theorem joyAutoStick1_reports (s : State) : Reports s (joyAutoStick1 s) := by
  unfold joyAutoStick1
  split
  · have e := enqueue_reports [0xFF, s.jcur1] s
    exact ⟨rfl, e.fifo, e.boot, .inl rfl, .inr rfl⟩
  · exact .refl s

theorem joyAutoReport_reports (s : State) : Reports s (joyAutoReport s) :=
  (joyAutoStick0_reports s).trans (joyAutoStick1_reports _)

theorem monitorTick_reports (j0raw j1raw : Byte) (s : State) : Reports s (monitorTick j0raw j1raw s) :=
  (clearDelta_reports s).trans (enqueue_reports _ _)

/-- What the poll can write: JCUR and the joystick-sourced bit of BTN_R (R271). -/
theorem joyPoll_rest (j0raw j1raw : Byte) (s : State) :
    joyPoll j0raw j1raw s = { s with
      jcur0 := (joyPoll j0raw j1raw s).jcur0, jcur1 := (joyPoll j0raw j1raw s).jcur1,
      btnR := (joyPoll j0raw j1raw s).btnR } := by
  unfold joyPoll
  split <;> rfl

/-- A tick is its motion part and then some engine work (R231). -/
theorem onTick_reports (j0raw j1raw : Byte) (s : State) :
    Reports (tickMotion j0raw j1raw s) (onTick j0raw j1raw s) := by
  simp only [onTick]
  split
  · exact monitorTick_reports _ _ _
  · exact (mouseReport_reports _).trans (joyAutoReport_reports _)
  · exact mouseReport_reports _

end Sys2Proof.Machine
end

