-- ==== Sys2Proof/Laws/Flags.lean ====
section
/-! SUPPORT. What the tests of Flags.lean and the narrowings of Operands.lean say, as propositions and as integers: the
cursor-key tests (44_mouse_report_engine.md R243), a 32-bit word that holds its integer exactly (00_scope.md R12), and the
residual of a relative step (R241). -/

namespace Sys2Proof.Machine

theorem stepsBack_iff {d k : Int} : stepsBack d k = true ↔ d ≠ 0 ∧ d ≤ -k := by
  unfold stepsBack
  exact decide_eq_true_iff

theorem stepsForward_iff {d k : Int} : stepsForward d k = true ↔ d ≠ 0 ∧ k ≤ d := by
  unfold stepsForward
  exact decide_eq_true_iff

/-- A 32-bit word holds exactly every integer that fits it. -/
theorem s32_toInt_of_fits {v : Int} (lo : -(2 ^ 31) ≤ v) (hi : v < 2 ^ 31) : (s32 v).toInt = v := by
  rw [s32, BitVec.toInt_ofInt]
  simp only [Int.bmod]
  omega

theorem toInt_word32_fits (d : Word32) : -(2 ^ 31) ≤ d.toInt ∧ d.toInt < 2 ^ 31 := by
  have lo := d.le_toInt
  have hi := d.toInt_lt
  omega

theorem relClamp_eq (d : Word32) : relClamp d = min (max d.toInt (-128)) 127 := rfl

/-- A relative step takes exactly the reported count out of a residual: it never wraps. -/
theorem relClamp_residual (d : Word32) : (s32 (sext32 d - relClamp d)).toInt = d.toInt - relClamp d := by
  have := toInt_word32_fits d
  rw [relClamp_eq, sext32]
  exact s32_toInt_of_fits (by omega) (by omega)

end Sys2Proof.Machine
end

