-- ==== Sys2Proof/Laws/Interpreter.lean ====
section
/-! SUPPORT. The command interpreter and the dispatch, said once (40_command_interpreter.md). -/

namespace Sys2Proof.Machine

/-- What an accepted byte does to the command buffer (R122). -/
theorem appendHostByte_eq {b : Byte} {s : State} (h : s.cmdLen.val < 8) : appendHostByte b s =
    { s with cmdBuf := s.cmdBuf.set s.cmdLen.val b h, cmdLen := ⟨s.cmdLen.val + 1, Nat.succ_lt_succ h⟩ } := by
  simp [appendHostByte, h]

/-- `HostByte(b)` at a buffer that is not full (R121). -/
theorem onHostByte_eq {b : Byte} {s : State} (h : s.cmdLen.val < 8) : onHostByte b s =
    match decode (appendHostByte b s).cmdBytes with
    | .command i _ => exec i (appendHostByte b s)
    | .wait _ => .next (appendHostByte b s)
    | .unknown _ => .next { appendHostByte b s with cmdLen := 0 }
    | .empty => .next (appendHostByte b s) :=
  if_neg (show s.cmdLen.val ≠ cmdCap from Nat.ne_of_lt h)

/-- At a full buffer the byte is dropped (R81, R128). -/
theorem onHostByte_full {b : Byte} {s : State} (h : ¬ s.cmdLen.val < 8) : onHostByte b s = .next s :=
  if_pos (show s.cmdLen.val = cmdCap from Nat.le_antisymm (Nat.le_of_lt_succ s.cmdLen.isLt) (Nat.le_of_not_lt h))

/-- A step takes the next scheduled event. -/
theorem step_eq {s : State} {e : Event} {rest : List Event} (hc : s.cfg.wf = true) (hi : s.inputs = e :: rest) :
    step s = takeEvent e { s with inputs := rest } := by
  simp [step, hc, takeNext, hi]

/-- Everything a step that ends in a next state can be: idle, or the next event taken. -/
theorem step_cases {s t : State} (h : step s = .next t) : s.cfg.wf = true ∧
    ((s.inputs = [] ∧ t = s) ∨ ∃ e rest, s.inputs = e :: rest ∧ takeEvent e { s with inputs := rest } = .next t) := by
  unfold step takeNext at h
  split at h
  · rename_i hc
    refine ⟨hc, ?_⟩
    split at h
    · rename_i hi
      cases h
      exact .inl ⟨hi, rfl⟩
    · rename_i e rest hi
      exact .inr ⟨e, rest, hi, h⟩
  · cases h

/-- The first bytes of a command buffer, with its first byte in front. -/
theorem take_eq_cons (v : Vector Byte 8) (n : Nat) : v.toList.take (n + 1) = v[0] :: (v.toList.take (n + 1)).tail := by
  rcases v with ⟨⟨l⟩, hl⟩
  rcases l with _ | ⟨a, l⟩
  · simp at hl
  · simp

/-- Everything a host byte at a buffer that is not full can lead to: the buffer's first byte alone decides (R121, R123). -/
theorem onHostByte_cases {b : Byte} {s : State} (h : s.cmdLen.val < 8) :
    (lookup (appendHostByte b s).cmdBuf[0] = none ∧ onHostByte b s = .next { appendHostByte b s with cmdLen := 0 }) ∨
    (∃ e, lookup (appendHostByte b s).cmdBuf[0] = some e ∧ s.cmdLen.val + 1 < e.len ∧
      onHostByte b s = .next (appendHostByte b s)) ∨
    (∃ e i more, lookup (appendHostByte b s).cmdBuf[0] = some e ∧ e.len ≤ s.cmdLen.val + 1 ∧
      decode (appendHostByte b s).cmdBytes = .command i more ∧ onHostByte b s = exec i (appendHostByte b s)) := by
  rw [onHostByte_eq h]
  have hb : (appendHostByte b s).cmdBytes =
      (appendHostByte b s).cmdBuf[0] :: ((appendHostByte b s).cmdBytes).tail := by
    rw [State.cmdBytes, appendHostByte_eq h]
    exact take_eq_cons _ _
  have hl : (appendHostByte b s).cmdBytes.length = s.cmdLen.val + 1 := by
    rw [State.cmdBytes, appendHostByte_eq h]
    simp
    omega
  rw [hb] at hl ⊢
  cases he : lookup (appendHostByte b s).cmdBuf[0] with
  | none => simp [decode, he]
  | some e =>
    by_cases hw : s.cmdLen.val + 1 < e.len
    · right; left
      refine ⟨e, rfl, hw, ?_⟩
      simp only [decode, he, hl, if_pos hw]
    · right; right
      refine ⟨e, _, _, rfl, by omega, by simp only [decode, he, hl, if_neg hw]; rfl, ?_⟩
      simp only [decode, he, hl, if_neg hw]

/-! ## Dispatch -/

/-- What a handler offers with PAUSE cleared, its dispatch offers (R125). -/
theorem offers_dispatched {s t : State} {p : List Byte} (h : Offers { s with pause := false } t p) :
    Offers s.dispatched { t with cmdLen := 0 } p := by
  refine ⟨fun r => ?_, fun r => ?_⟩
  · have a := h.1 r
    refine ⟨?_, a.head, a.tail, a.count, a.unread, a.slots⟩
    rw [a.rest]
    rfl
  · rw [h.2 r]
    rfl

/-- A command whose handler only offers a packet responds with it. -/
theorem responds_of_offer {s : State} {i : Instr} {p : List Byte} (h : FifoWf s.cfg.outCap s.out) (hp : 0 < p.length)
    (he : exec i s = dispatch (fun s => enqueue p s) s) : Responds s i p :=
  ⟨_, he, offers_dispatched (enqueue_offers (s := { s with pause := false }) hp h)⟩

end Sys2Proof.Machine
end

