-- ==== Sys2Proof/Laws/PerInstr.lean ====
section
/-! SUPPORT. Facts about every instruction, one lemma per constructor. -/

namespace Sys2Proof.Laws

/-- The command table gives an instruction's first byte the length of its encoding (R97, R100, R108). -/
def EncodedLength.Statement (i : Instr) : Prop := commandLength ((encode i).headD 0) = some (encode i).length

theorem EncodedLength.setMouseAction (a : Byte) : EncodedLength.Statement (.setMouseAction a) := rfl
theorem EncodedLength.setRelMouse : EncodedLength.Statement (.setRelMouse) := rfl
theorem EncodedLength.setAbsMouse (maxX maxY : Word16) : EncodedLength.Statement (.setAbsMouse maxX maxY) := rfl
theorem EncodedLength.setKeycodeMouse (kx ky : Byte) : EncodedLength.Statement (.setKeycodeMouse kx ky) := rfl
theorem EncodedLength.setThreshold (tx ty : Byte) : EncodedLength.Statement (.setThreshold tx ty) := rfl
theorem EncodedLength.setScale (sx sy : Byte) : EncodedLength.Statement (.setScale sx sy) := rfl
theorem EncodedLength.interrogateMouse : EncodedLength.Statement (.interrogateMouse) := rfl
theorem EncodedLength.loadMousePos (filler : Byte) (x y : Word16) : EncodedLength.Statement (.loadMousePos filler x y) := rfl
theorem EncodedLength.setYsignPos : EncodedLength.Statement (.setYsignPos) := rfl
theorem EncodedLength.setYsignNeg : EncodedLength.Statement (.setYsignNeg) := rfl
theorem EncodedLength.resume : EncodedLength.Statement (.resume) := rfl
theorem EncodedLength.disableMouse : EncodedLength.Statement (.disableMouse) := rfl
theorem EncodedLength.pause : EncodedLength.Statement (.pause) := rfl
theorem EncodedLength.setJoyAuto : EncodedLength.Statement (.setJoyAuto) := rfl
theorem EncodedLength.setJoyOff : EncodedLength.Statement (.setJoyOff) := rfl
theorem EncodedLength.interrogateJoy : EncodedLength.Statement (.interrogateJoy) := rfl
theorem EncodedLength.setJoyMonitor (r : Byte) : EncodedLength.Statement (.setJoyMonitor r) := rfl
theorem EncodedLength.nop18 : EncodedLength.Statement (.nop18) := rfl
theorem EncodedLength.nop19 (p1 p2 p3 p4 p5 p6 : Byte) : EncodedLength.Statement (.nop19 p1 p2 p3 p4 p5 p6) := rfl
theorem EncodedLength.disableJoy : EncodedLength.Statement (.disableJoy) := rfl
theorem EncodedLength.reset (k : Byte) : EncodedLength.Statement (.reset k) := rfl
theorem EncodedLength.reportAction : EncodedLength.Statement (.reportAction) := rfl
theorem EncodedLength.reportMouseMode88 : EncodedLength.Statement (.reportMouseMode88) := rfl
theorem EncodedLength.reportMouseMode89 : EncodedLength.Statement (.reportMouseMode89) := rfl
theorem EncodedLength.reportMouseMode8A : EncodedLength.Statement (.reportMouseMode8A) := rfl
theorem EncodedLength.reportThreshold : EncodedLength.Statement (.reportThreshold) := rfl
theorem EncodedLength.reportScale : EncodedLength.Statement (.reportScale) := rfl
theorem EncodedLength.reportYsign8F : EncodedLength.Statement (.reportYsign8F) := rfl
theorem EncodedLength.reportYsign90 : EncodedLength.Statement (.reportYsign90) := rfl
theorem EncodedLength.reportMouseAvail : EncodedLength.Statement (.reportMouseAvail) := rfl
theorem EncodedLength.reportJoyMode94 : EncodedLength.Statement (.reportJoyMode94) := rfl
theorem EncodedLength.reportJoyMode95 : EncodedLength.Statement (.reportJoyMode95) := rfl
theorem EncodedLength.reportJoyMode99 : EncodedLength.Statement (.reportJoyMode99) := rfl
theorem EncodedLength.reportJoyAvail : EncodedLength.Statement (.reportJoyAvail) := rfl

end Sys2Proof.Laws
end

