-- ==== Sys2Proof/Tests/Slice0.lean ====
section
/-! SUPPORT. Small tests of the model, and a witness for the hypotheses of every statement.

Expected values are the spec's: its encodings (30_encoding.md R97, R98, R108) and its vectors
(95_test_vectors.md, named V-..., W..., P...
beside each test), on a FIFO of 16 bytes where a vector does not set its own. -/

open Sys2Proof Sys2Proof.Machine

namespace Sys2Proof.Tests

/-! ## Helpers -/

/-- Boot0 with a FIFO of 16 bytes. -/
def boot : State := State.initial { outCap := 16 }

/-- Ready0 with a FIFO of 16 bytes. -/
def ready : State := { boot with booting := false, timerArmed := false }

/-- A view of the next state, if there is one. -/
def after {α : Type} (o : Host.Outcome State Fault Refusal) (f : State → α) : Option α :=
  match o with
  | .next t => some (f t)
  | .fault _ => none
  | .refused _ => none

/-! ## WellFormed: a configuration each check refuses, and one both accept (U7, D42) -/

theorem test_wf_refuses_small_cap : Config.roomForPackets { outCap := 4 } = false ∧ Config.wf { outCap := 4 } =
    false := by decide

theorem test_wf_refuses_cap_no_power : Config.capPowerOfTwo { outCap := 12 } = false ∧
    Config.wf { outCap := 12 } = false := by
  decide

theorem test_wf_accepts_least_cap : Config.wf { outCap := 8 } = true ∧ Config.wf {} = true := by decide

theorem test_wf_every_operand_is_legal : (Instr.reset 0x02).wf = true ∧ (Instr.nop19 1 2 3 4 5 6).wf = true := by decide

/-! ## Decoding: one word of every command, written out from its encoding -/

theorem test_decode_setMouseAction : decode [0x07, 0x05] = .command (.setMouseAction 0x05) [] := by decide
theorem test_decode_setRelMouse : decode [0x08] = .command (.setRelMouse) [] := by decide
theorem test_decode_setAbsMouse : decode [0x09, 0x01, 0x40, 0x00, 0xC8] =
    .command (.setAbsMouse 0x0140 0x00C8) [] := by decide
theorem test_decode_setKeycodeMouse : decode [0x0A, 0x02, 0x03] = .command (.setKeycodeMouse 0x02 0x03) [] := by decide
theorem test_decode_setThreshold : decode [0x0B, 0x12, 0x13] = .command (.setThreshold 0x12 0x13) [] := by decide
theorem test_decode_setScale : decode [0x0C, 0x02, 0x03] = .command (.setScale 0x02 0x03) [] := by decide
theorem test_decode_interrogateMouse : decode [0x0D] = .command (.interrogateMouse) [] := by decide
theorem test_decode_loadMousePos : decode [0x0E, 0xAA, 0x01, 0x00, 0x00, 0x20] =
    .command (.loadMousePos 0xAA 0x0100 0x0020) [] := by decide
theorem test_decode_setYsignPos : decode [0x0F] = .command (.setYsignPos) [] := by decide
theorem test_decode_setYsignNeg : decode [0x10] = .command (.setYsignNeg) [] := by decide
theorem test_decode_resume : decode [0x11] = .command (.resume) [] := by decide
theorem test_decode_disableMouse : decode [0x12] = .command (.disableMouse) [] := by decide
theorem test_decode_pause : decode [0x13] = .command (.pause) [] := by decide
theorem test_decode_setJoyAuto : decode [0x14] = .command (.setJoyAuto) [] := by decide
theorem test_decode_setJoyOff : decode [0x15] = .command (.setJoyOff) [] := by decide
theorem test_decode_interrogateJoy : decode [0x16] = .command (.interrogateJoy) [] := by decide
theorem test_decode_setJoyMonitor : decode [0x17, 0x05] = .command (.setJoyMonitor 0x05) [] := by decide
theorem test_decode_nop18 : decode [0x18] = .command (.nop18) [] := by decide
theorem test_decode_nop19 : decode [0x19, 0x08, 0x12, 0x13, 0x14, 0x15, 0x1A] =
    .command (.nop19 0x08 0x12 0x13 0x14 0x15 0x1A) [] := by decide
theorem test_decode_disableJoy : decode [0x1A] = .command (.disableJoy) [] := by decide
theorem test_decode_reset : decode [0x80, 0x01] = .command (.reset 0x01) [] := by decide
theorem test_decode_reportAction : decode [0x87] = .command (.reportAction) [] := by decide
theorem test_decode_reportMouseMode88 : decode [0x88] = .command (.reportMouseMode88) [] := by decide
theorem test_decode_reportMouseMode89 : decode [0x89] = .command (.reportMouseMode89) [] := by decide
theorem test_decode_reportMouseMode8A : decode [0x8A] = .command (.reportMouseMode8A) [] := by decide
theorem test_decode_reportThreshold : decode [0x8B] = .command (.reportThreshold) [] := by decide
theorem test_decode_reportScale : decode [0x8C] = .command (.reportScale) [] := by decide
theorem test_decode_reportYsign8F : decode [0x8F] = .command (.reportYsign8F) [] := by decide
theorem test_decode_reportYsign90 : decode [0x90] = .command (.reportYsign90) [] := by decide
theorem test_decode_reportMouseAvail : decode [0x92] = .command (.reportMouseAvail) [] := by decide
theorem test_decode_reportJoyMode94 : decode [0x94] = .command (.reportJoyMode94) [] := by decide
theorem test_decode_reportJoyMode95 : decode [0x95] = .command (.reportJoyMode95) [] := by decide
theorem test_decode_reportJoyMode99 : decode [0x99] = .command (.reportJoyMode99) [] := by decide
theorem test_decode_reportJoyAvail : decode [0x9A] = .command (.reportJoyAvail) [] := by decide

theorem test_decode_leaves_the_rest : decode [0x80, 0x01, 0x12, 0x1A] = .command (.reset 0x01) [0x12, 0x1A] := by decide

theorem test_decode_waits : decode [0x19, 0x08, 0x12, 0x13, 0x14, 0x15] = .wait 7 := by decide

theorem test_decode_unknown : decode [0x8D] = .unknown 0x8D ∧ decode [] = .empty := by decide

theorem test_table_word : decodeTableWord 8 0x09 = some (.setAbsMouse 0 0) ∧ decodeTableWord 16 0x0180 =
    some (.reset 0x01) ∧
    decodeTableWord 8 0x180 = some (.reset 0x00) ∧ decodeTableWord 8 0xFF = none := by decide

/-! ## The step from reset on a placed word -/

theorem test_placed_ysign : after (step (State.reset.withFetchWord 8 0x10)) (fun t => (t.ysign, t.inputs)) =
    some (true, []) := by
  decide +kernel

theorem test_placed_abs_mouse :
    after (step (State.reset.withFetchWord 40 0xC800400109)) (fun t => (t.mmode, t.maxX, t.maxY)) =
      some (.absolute, 0x0140, 0x00C8) := by decide

/-! ## Commands -/

/-- V-MC-1 -/
theorem test_action_ignores_high_bits :
    after (exec (.setMouseAction 0xFF) ready) (·.action) = some 0b111 := by decide

/-- V-CJ-11: MEDR remembers 08 while Booting -/
theorem test_rel_mouse_in_boot :
    after (exec .setRelMouse { boot with mmode := .off }) (fun t => (t.mmode, t.medr)) = some (.relative, true) := by
  decide

/-- V-MC-5 -/
theorem test_abs_mouse_clamps :
    after (exec (.setAbsMouse 0x0040 0x0020) { ready with absX := 128, absY := 64 }) (fun t => (t.mmode, t.absX, t.absY)) = some (.absolute, 64, 32) := by
  decide

/-- V-RP-22 -/
theorem test_keycode_mouse :
    after (exec (.setKeycodeMouse 0x02 0x03) ready) (fun t => (t.mmode, t.kcX, t.kcY)) = some (.cursorKey, 2, 3) := by
  decide

/-- V-CI-5 -/
theorem test_threshold :
    after (exec (.setThreshold 0x12 0x13) ready) (fun t => (t.thrX, t.thrY, t.mmode)) = some (0x12, 0x13, .relative) := by
  decide

/-- V-MC-6 -/
theorem test_scale :
    after (exec (.setScale 0x02 0x03) ready) (fun t => (t.scaleX, t.scaleY)) = some (2, 3) := by decide

/-- V-MC-15, second report -/
theorem test_interrogate_press :
    after (exec .interrogateMouse { ready with absX := 80, absY := 100, btnR := 0b01 }) (·.unread) =
      some [0xF7, 0x01, 0x00, 0x50, 0x00, 0x64] := by decide

/-- P1 step 8 -/
theorem test_interrogate_mask :
    after (exec .interrogateMouse { ready with absX := 320, absY := 60, btnL := 0b01 }) (fun t => (t.unread, t.absPrevMask)) =
      some ([0xF7, 0x04, 0x01, 0x40, 0x00, 0x3C], 0b1001) := by decide

/-- V-MC-3 -/
theorem test_load_pos_filler :
    after (exec (.loadMousePos 0xAA 0x0100 0x0020) ready) (fun t => (t.absX, t.absY)) = some (256, 32) := by decide

/-- V-MC-4 -/
theorem test_load_pos_clamps :
    after (exec (.loadMousePos 0x00 0x0100 0x0100) { ready with maxX := 100, maxY := 100 }) (fun t => (t.absX, t.absY)) =
      some (100, 100) := by decide

/-- V-MC-9, V-MC-16 -/
theorem test_ysign :
    after (exec .setYsignNeg ready) (·.ysign) = some true ∧
        after (exec .setYsignPos { ready with ysign := true }) (·.ysign) = some false := by
  decide

/-- V-CJ-4 -/
theorem test_resume :
    after (exec .resume { ready with pause := true }) (·.pause) = some false := by decide

/-- V-CJ-3, V-CJ-9 -/
theorem test_pause :
    after (exec .pause ready) (·.pause) = some true ∧ after (exec .pause boot) (·.pause) = some false := by decide

/-- W6, second row -/
theorem test_disable_in_ready :
    after (exec .disableMouse ready) (fun t => (t.mmode, t.mdis)) = some (.off, false) ∧
      after (exec .disableJoy ready) (fun t => (t.jmode, t.jdis)) = some (.off, false) := by decide

/-- V-CJ-18 -/
theorem test_both_disabled_quirk :
    after (exec .disableMouse { boot with jmode := .off, jdis := true }) (fun t => (t.mmode, t.jmode, t.both)) =
      some (.relative, .auto, true) := by decide

/-- V-CJ-20 -/
theorem test_quirk_at_disable_joy :
    after (exec .disableJoy { boot with mdis := true, medr := true }) (fun t => (t.mmode, t.jmode)) =
        some (.relative, .auto) := by
  decide

/-- V-CJ-13, V-CJ-12 -/
theorem test_joy_auto :
    after (exec .setJoyAuto ready) (fun t => (t.mmode, t.jmode)) = some (.off, .auto) ∧
      after (exec .setJoyAuto { ready with mmode := .off, mdis := true }) (·.mmode) = some .relative := by decide

/-- V-CJ-21: 15 is not 1A -/
theorem test_joy_off :
    after (exec .setJoyOff boot) (fun t => (t.jmode, t.jdis)) = some (.off, false) := by decide

/-- V-CJ-15 -/
theorem test_interrogate_joy :
    after (exec .interrogateJoy { ready with jcur0 := 0x04, jcur1 := 0x01 }) (·.unread) = some [0xFD, 0x04, 0x01] := by
  decide

/-- V-CJ-17 -/
theorem test_joy_monitor_rate_zero :
    after (exec (.setJoyMonitor 0x00) ready) (fun t => (t.jmode, t.jrate, t.mmode)) = some (.monitoring, 1, .relative) := by
  decide

/-- V-CI-7, V-CI-8 -/
theorem test_nops :
    exec .nop18 ready = .next ready ∧ exec (.nop19 0x08 0x12 0x13 0x14 0x15 0x1A) ready = .next ready := ⟨rfl, rfl⟩

/-- V-CJ-1, V-CJ-2 -/
theorem test_reset_key :
    after (exec (.reset 0x02) { ready with pause := true }) (fun t => (t.booting, t.pause)) = some (false, false) := by
  decide

/-- W2, and R58 warm column: CLOCK and the physical button bits are kept -/
theorem test_warm_reset :
    after (exec (.reset 0x01) { ready with mmode := .off, jmode := .off, btnR := 0b11, clock := [1, 2, 3, 4, 5, 6] })
      (fun t => ((t.mmode, t.jmode, t.booting, t.timerArmed), (t.out.count, t.btnR, t.clock))) =
      some ((.relative, .auto, true, true), (0, 0b01, [1, 2, 3, 4, 5, 6])) := by decide

/-- The state V-RP-14 to V-RP-21 start from. -/
def configured : State :=
  { ready with action := 5, mmode := .absolute, maxX := 320, maxY := 200, thrX := 0x10, thrY := 0x20, scaleX := 0, scaleY := 3,
               ysign := true, jmode := .monitoring, jrate := 5 }

/-- V-RP-14 -/
theorem test_report_action :
    after (exec .reportAction configured) (·.unread) = some [0xF6, 0x07, 0x05, 0, 0, 0, 0, 0] := by decide

/-- V-RP-15 -/
theorem test_report_mode_88 :
    after (exec .reportMouseMode88 configured) (·.unread) = some [0xF6, 0x09, 0x01, 0x40, 0x00, 0xC8, 0, 0] := by decide

/-- V-RP-16 -/
theorem test_report_threshold :
    after (exec .reportThreshold configured) (·.unread) = some [0xF6, 0x0B, 0x10, 0x20, 0, 0, 0, 0] := by decide

/-- V-RP-17 -/
theorem test_report_scale :
    after (exec .reportScale configured) (·.unread) = some [0xF6, 0x0C, 0x00, 0x03, 0, 0, 0, 0] := by decide

/-- V-RP-18 -/
theorem test_report_ysign_8F :
    after (exec .reportYsign8F configured) (·.unread) = some [0xF6, 0x10, 0, 0, 0, 0, 0, 0] := by decide

/-- V-RP-19 -/
theorem test_report_mouse_avail :
    after (exec .reportMouseAvail configured) (·.unread) = some [0xF6, 0x00, 0, 0, 0, 0, 0, 0] := by decide

/-- V-RP-20 -/
theorem test_report_joy_mode_94 :
    after (exec .reportJoyMode94 configured) (·.unread) = some [0xF6, 0x17, 0x05, 0, 0, 0, 0, 0] := by decide

/-- V-RP-21 -/
theorem test_report_joy_avail :
    after (exec .reportJoyAvail configured) (·.unread) = some [0xF6, 0x00, 0, 0, 0, 0, 0, 0] := by decide

/-- V-RP-3 -/
theorem test_report_mode_89 :
    after (exec .reportMouseMode89 ready) (·.unread) = some [0xF6, 0x08, 0, 0, 0, 0, 0, 0] := by decide

/-- V-RP-8 -/
theorem test_report_ysign_90 :
    after (exec .reportYsign90 ready) (·.unread) = some [0xF6, 0x0F, 0, 0, 0, 0, 0, 0] := by decide

/-- V-RP-11 -/
theorem test_report_joy_mode_95 :
    after (exec .reportJoyMode95 ready) (·.unread) = some [0xF6, 0x14, 0, 0, 0, 0, 0, 0] := by decide

/-- V-RP-12 -/
theorem test_report_joy_mode_99 :
    after (exec .reportJoyMode99 ready) (·.unread) = some [0xF6, 0x14, 0, 0, 0, 0, 0, 0] := by decide

/-- V-RP-22 -/
theorem test_report_mode_8A :
    after (exec .reportMouseMode8A { ready with mmode := .cursorKey, kcX := 2, kcY := 3 }) (·.unread) =
      some [0xF6, 0x0A, 0x02, 0x03, 0, 0, 0, 0] := by decide

/-- V-RP-23 -/
theorem test_report_off :
    after (exec .reportMouseAvail { ready with mmode := .off }) (·.unread) = some [0xF6, 0x12, 0, 0, 0, 0, 0, 0] ∧
      after (exec .reportJoyAvail { ready with jmode := .off }) (·.unread) = some [0xF6, 0x1A, 0, 0, 0, 0, 0, 0] := by
  decide

/-- V-RP-24, V-RP-25 -/
theorem test_report_seven_bytes_or_none :
    after (exec .reportThreshold { ready with cfg := { ready.cfg with reportLen := { r8B := .seven } } }) (·.unread) =
      some [0xF6, 0x0B, 0x01, 0x01, 0, 0, 0] ∧
    after (exec .reportThreshold boot) (·.unread) = some [] := by decide

/-! ## Events -/

/-- V-CI-1 -/
theorem test_host_byte_waits :
    after (takeEvent (.hostByte 0x09) ready) (·.cmdBytes) = some [0x09] := by decide

/-- W1 -/
theorem test_host_byte_unknown :
    after (takeEvent (.hostByte 0x8D) ready) (·.cmdBytes) = some [] := by decide

/-- W4, third row -/
theorem test_tick_below_threshold :
    after (takeEvent (.tick 0 0) { ready with accX := 3, deltaX := 6, thrX := 10 }) (fun t => (t.unread, t.deltaX)) = some ([], 9) := by
  decide

/-- W4, fourth row -/
theorem test_tick_crosses :
    after (takeEvent (.tick 0 0) { ready with accX := 3, deltaX := 9, thrX := 10 }) (fun t => (t.unread, t.deltaX)) =
      some ([0xF8, 0x0C, 0x00], 0) := by decide

/-- W4, sixth row -/
theorem test_tick_clamps_motion :
    after (takeEvent (.tick 0 0) { ready with accX := 200, thrX := 10 }) (fun t => (t.unread, t.deltaX)) =
      some ([0xF8, 0x7F, 0x00], 73) := by decide

/-- V-MC-14 -/
theorem test_tick_negative_motion :
    after (takeEvent (.tick 0 0) { ready with accX := -255, deltaX := 127, thrX := 127 }) (fun t => (t.unread, t.deltaX)) =
      some ([0xF8, 0x80, 0x00], 0) := by decide

/-- V-MC-7 -/
theorem test_tick_scaled_position :
    after (takeEvent (.tick 0 0) { ready with accX := 10, accY := 10, scaleX := 2, scaleY := 2, absX := 100, absY := 100, ysign := true })
      (fun t => (t.unread, t.absX, t.absY)) = some ([0xF8, 0x0A, 0xF6], 120, 80) := by decide

/-- W5 -/
theorem test_tick_absolute_clamp :
    after (takeEvent (.tick 0 0) { ready with mmode := .absolute, accX := -500, absX := 80, absY := 100, maxX := 320, maxY := 200 })
      (fun t => (t.unread, t.absX, t.absY)) = some ([], 0, 100) := by decide

/-- V-MC-11, V-MC-12 -/
theorem test_tick_threshold_policy :
    after (takeEvent (.tick 0 0) { ready with accX := 5, thrX := 5 }) (·.unread) = some [] ∧
      after (takeEvent (.tick 0 0) { ready with cfg := { ready.cfg with threshStrict := false }, accX := 5, thrX := 5 }) (·.unread) =
        some [0xF8, 0x05, 0x00] := by decide

/-- V-TM-3 -/
theorem test_tick_buttons_as_keys :
    after (takeEvent (.tick 0 0) { ready with action := 4, btnLPrev := 1, btnRPrev := 1 }) (·.unread) =
        some [0xF4, 0xF5] := by
  decide

/-- V-TM-8 -/
theorem test_tick_forced_report_first :
    after (takeEvent (.tick 0 0) { ready with action := 3, btnL := 1 }) (·.unread) =
      some [0xF7, 0x04, 0x00, 0x00, 0x00, 0x00, 0xFA, 0x00, 0x00] := by decide

/-- V-TM-7 -/
theorem test_tick_release_mask :
    after (takeEvent (.tick 0 0) { ready with mmode := .absolute, maxX := 100, maxY := 100, action := 2, btnLPrev := 1 }) (·.unread) =
      some [0xF7, 0x00, 0x00, 0x00, 0x00, 0x00] := by decide

/-- V-CK-1 -/
theorem test_tick_cursor_keys :
    after (takeEvent (.tick 0 0) { ready with mmode := .cursorKey, accX := -2, accY := 3 }) (fun t => (t.unread, t.deltaX, t.deltaY)) =
      some ([0x4B, 0xCB, 0x50, 0xD0, 0x4B, 0xCB, 0x50, 0xD0, 0x50, 0xD0], 0, 0) := by decide

/-- V-CK-6 -/
theorem test_tick_cursor_stops_at_ten :
    after (takeEvent (.tick 0 0) { ready with mmode := .cursorKey, accX := 50 }) (·.deltaX) = some 40 := by decide

/-- R242, R248: 300 counts are three packets -/
theorem test_tick_until_converged :
    after (takeEvent (.tick 0 0) { ready with cfg := { ready.cfg with relLoop := .untilConverged }, accX := 300 }) (·.unread) =
      some [0xF8, 0x7F, 0x00, 0xF8, 0x7F, 0x00, 0xF8, 0x2E, 0x00] := by decide

/-- V-MO-5 -/
theorem test_tick_monitoring :
    after (takeEvent (.tick 0x81 0x04) { ready with jmode := .monitoring, accX := 50 }) (fun t => (t.unread, t.deltaX, t.absX)) =
      some ([0x02, 0x14], 0, 50) := by decide

/-- V-JA-1 -/
theorem test_tick_joy_auto :
    after (takeEvent (.tick 0x71 0x02) { ready with jprev0 := 0x02 }) (·.unread) = some [0xFE, 0x01, 0xFF, 0x02] := by
  decide

/-- V-JA-4 -/
theorem test_tick_fire_is_right_button :
    after (takeEvent (.tick 0x00 0x82) ready) (fun t => (t.unread, t.btnR)) =
        some ([0xF9, 0x00, 0x00, 0xFF, 0x02], 0b10) := by
  decide

/-- V-JA-3 -/
theorem test_tick_fire_with_mouse_off :
    after (takeEvent (.tick 0x00 0x80) { ready with mmode := .off }) (·.unread) = some [0xFE, 0x80, 0xFF, 0x80] := by
  decide

/-- V-KF-2: a FIFO of 8 with 6 bytes waiting -/
theorem test_tick_drop_is_consumed :
    after (takeEvent (.tick 0 0) { State.initial { outCap := 8 } with booting := false, accX := 10, out := ⟨[0, 1, 2, 3, 4, 5, 0, 0], 0, 6, 6⟩ })
      (fun t => (t.unread, t.deltaX)) = some ([0, 1, 2, 3, 4, 5], 0) := by decide

/-- V-KF-4: a FIFO of 8 with 5 bytes waiting -/
theorem test_tick_exact_fit :
    after (takeEvent (.tick 0 0) { State.initial { outCap := 8 } with booting := false, accX := 10, out := ⟨[0, 1, 2, 3, 4, 0, 0, 0], 0, 5, 5⟩ })
      (·.unread) = some [0, 1, 2, 3, 4, 0xF8, 0x0A, 0x00] := by decide

/-- V-KF-3: the byte after slot 7 goes to slot 0 -/
theorem test_key_wraps_the_fifo :
    after (takeEvent (.keyTransition 0x07 true) { State.initial { outCap := 8 } with booting := false, out := ⟨[9, 9, 9, 9, 2, 3, 4, 5], 4, 0, 4⟩ })
      (fun t => (t.unread, t.out.buf)) = some ([2, 3, 4, 5, 7], [7, 9, 9, 9, 2, 3, 4, 5]) := by decide

/-- V-KF-5 -/
theorem test_key_release :
    after (takeEvent (.keyTransition 0x7F false) ready) (·.unread) = some [0xFF] := by decide

/-- V-MO-1: KEYSTATE follows, the byte is suppressed -/
theorem test_key_while_monitoring :
    after (takeEvent (.keyTransition 0x10 true) { ready with jmode := .monitoring }) (fun t => (t.unread, t.keyState[0x10])) = some ([], true) := by
  decide

/-- R283: raw counts are signed -/
theorem test_motion :
    after (takeEvent (.mouseMotion 0xFFFE 0x0003) { ready with accX := 5 }) (fun t => (t.accX, t.accY)) = some (3, 3) := by
  decide

/-- V-JA-5: the joystick source stays -/
theorem test_buttons :
    after (takeEvent (.mouseButtons false true) { ready with btnR := 0b10 }) (fun t => (t.btnL, t.btnR)) =
        some (0b00, 0b11) := by
  decide

/-- V-BT-2 -/
theorem test_expire :
    after (takeEvent .bootTimerExpire boot) (fun t => (t.unread, t.booting, t.timerArmed)) =
        some ([0xF1], false, false) := by
  decide

/-- R76 -/
theorem test_pop_while_paused :
    after (takeEvent .outPop { ready with pause := true, out := ⟨[1, 2, 0, 0, 0, 0, 0, 0, 0, 0, 0, 0, 0, 0, 0, 0], 0, 2, 2⟩ })
      (fun t => (t.unread, t.outputs)) = some ([2], [.bootTimerArm, .byte 1]) := by decide

/-- R58, cold column -/
theorem test_cold_reset :
    after (takeEvent .coldReset { ready with clock := [1, 2, 3, 4, 5, 6], btnL := 1, pause := true }) (fun t => (t.clock, t.btnL, t.booting, t.pause)) =
      some ([0, 0, 0, 0, 0, 0], 0, true, false) := by decide


/-! ## Witnesses: states and operands that meet the hypotheses of each statement -/

theorem ready_fifo : FifoWf ready.cfg.outCap ready.out := ⟨by decide, by decide, by decide, by decide⟩

/-- A packet has room in `ready`. -/
theorem ready_room : Room ready 8 ∧ Room ready.dispatched 8 := by
  refine ⟨⟨?_, ?_, ?_⟩, ⟨?_, ?_, ?_⟩⟩ <;> decide

/-- The invariant of a state with an empty FIFO and no pending byte, checked field by field. -/
theorem inv_of_fields {s : State} (hc : s.cfg.wf = true) (hf : FifoWf s.cfg.outCap s.out) (hl : s.cmdLen = 0)
    (h : s.absX.toNat ≤ s.maxX.toNat ∧ s.absY.toNat ≤ s.maxY.toNat ∧ 1 ≤ s.jrate.toNat ∧ s.timerArmed = s.booting ∧
      (s.booting = true → s.out.count = 0) ∧ (s.booting = true → s.pause = false) ∧ (s.medr = true → s.booting = true) ∧
      s.btnL.getLsbD 1 = false ∧ s.jcur0 &&& 0x70 = 0 ∧ s.jcur1 &&& 0x70 = 0 ∧ s.jprev0 &&& 0x70 = 0 ∧
      s.jprev1 &&& 0x70 = 0 ∧ s.clock.length = s.cfg.nClock) : Inv s := by
  obtain ⟨h1, h2, h3, h4, h5, h6, h7, h8, h9, h10, h11, h12, h13⟩ := h
  exact ⟨hc, hf, by simp [hl], by simp [hl], h1, h2, h3, h4, h5, h6, h7, h8, h9, h10, h11, h12, h13⟩

theorem ready_inv : Inv ready := inv_of_fields (by decide) ready_fifo (by decide) (by decide)

theorem boot_inv : Inv boot :=
  inv_of_fields (by decide) ⟨by decide, by decide, by decide, by decide⟩ (by decide) (by decide)

theorem witness_ResetStateMeetsInvariant : Config.wf { outCap := 8 } = true := by decide

/-- A key byte is the next event, so the step does something. -/
def keyNext : State := { ready with inputs := [.keyTransition 0x1E true] }

theorem keyNext_inv : Inv keyNext := inv_of_fields (by decide) ready_fifo (by decide) (by decide)

theorem witness_EveryStepKeepsInvariant : Inv keyNext ∧ ∃ t, step keyNext = .next t ∧ t.unread = [0x1E] :=
  ⟨keyNext_inv, _, rfl, by decide⟩

/-- `keyNext` with another KEYSTATE, CLOCK, BOTH, CMDBUF and dead OUTBUF slot. -/
def keyNextHidden : State :=
  { keyNext with
    keyState := Vector.replicate 128 true, clock := [1, 2, 3, 4, 5, 6], both := true, cmdBuf := Vector.replicate 8 7
    out := { keyNext.out with buf := keyNext.out.buf.set 3 0x55 } }

theorem witness_UnobservableStateNeverReachesTheWire : Inv keyNext ∧ Inv keyNextHidden ∧ WireEquiv keyNext keyNextHidden ∧
    keyNext ≠ keyNextHidden ∧ ∃ t, step keyNext = .next t :=
  ⟨keyNext_inv,
    inv_of_fields (by decide) ⟨by decide, by decide, by decide, by decide⟩ (by decide) (by decide),
    ⟨rfl, by decide, by decide, by decide⟩, by decide, _, rfl⟩

theorem witness_DecodeUndoesEncode : Instr.wf (.loadMousePos 0xFF 0xFFFF 0x0000) = true := by decide

theorem witness_EncodeUndoesDecode : decode [0x0E, 0xAA, 0x01, 0x00, 0x00, 0x20, 0x13] =
    .command (.loadMousePos 0xAA 0x0100 0x0020) [0x13] := by decide

theorem witness_WideFieldsAreBigEndian : State.mmode { ready with mmode := .absolute } = .absolute := rfl

theorem witness_LookupIgnoresTableOrder : commandTable.reverse.Perm commandTable := List.reverse_perm _

/-- Each clause, its capacities at the boundary: 7 and 4 are too small, 9 is no power of two, 8 is accepted. -/
theorem witness_StepTakesNextEvent : (keyNext.cfg.wf = true ∧ keyNext.inputs = .keyTransition 0x1E true :: []) ∧
    (ready.cfg.wf = true ∧ ready.inputs = []) ∧ (State.initial { outCap := 4 }).cfg.wf = false ∧
    (State.initial { outCap := 7 }).cfg.outCap < 8 ∧
    (8 ≤ (State.initial { outCap := 9 }).cfg.outCap ∧ ∀ k, (State.initial { outCap := 9 }).cfg.outCap ≠ 2 ^ k) := by
  refine ⟨by decide, by decide, by decide, by decide, by decide, fun k h => ?_⟩
  rcases k with _ | k
  · cases h
  · have : 9 = 2 ^ k * 2 := h
    omega

/-- Four bytes of SET_ABS_MOUSE are in; the fifth is next. -/
def lastByteNext : State :=
  { ready with cmdBuf := #v[0x09, 0x01, 0x40, 0x00, 0, 0, 0, 0], cmdLen := 4, inputs := [.hostByte 0xC8] }

theorem witness_StepRunsDecodedCommand : ∃ h : lastByteNext.cmdLen.val < 8, lastByteNext.cfg.wf = true ∧
    lastByteNext.inputs = .hostByte 0xC8 :: [] ∧ Instr.wf (.setAbsMouse 0x0140 0x00C8) = true ∧
    decode ((lastByteNext.cmdBuf.set lastByteNext.cmdLen.val 0xC8 h).toList.take (lastByteNext.cmdLen.val + 1)) =
      .command (.setAbsMouse 0x0140 0x00C8) [] := ⟨by decide, by decide⟩

theorem witness_CommandSentByteByByteRunsOnce :
    let s : State := { ready with inputs := [.hostByte 0x0C, .hostByte 0x02, .hostByte 0x03, .outPop] }
    s.cfg.wf = true ∧ s.cmdLen = 0 ∧ s.inputs = (encode (.setScale 0x02 0x03)).map Event.hostByte ++ [.outPop] := by decide

/-- The first byte of SET_ABS_MOUSE is next, and the sixth of NOP_19. -/
theorem witness_IncompleteCommandWaits :
    (∃ h : ready.cmdLen.val < 8, commandLength (ready.cmdBuf.set ready.cmdLen.val 0x09 h)[0] = some 5 ∧
      ready.cmdLen.val + 1 < 5) ∧
    (let s : State := { ready with cmdBuf := #v[0x19, 1, 2, 3, 4, 0, 0, 0], cmdLen := 5, inputs := [.hostByte 5] };
      s.cfg.wf = true ∧ s.inputs = .hostByte 5 :: [] ∧
      ∃ h : s.cmdLen.val < 8, commandLength (s.cmdBuf.set s.cmdLen.val 5 h)[0] = some 7 ∧ s.cmdLen.val + 1 < 7) :=
  ⟨⟨by decide, by decide⟩, by decide, by decide, by decide, by decide⟩

theorem witness_UnknownByteIsDiscarded : let s : State := { ready with inputs := [.hostByte 0x8D] }
    s.cfg.wf = true ∧ s.inputs = .hostByte 0x8D :: [] ∧ s.cmdLen = 0 ∧ commandLength 0x8D = none := by decide

/-- Each clause on the reach of a threshold, at the ends of the ranges. -/
theorem witness_SetThresholdStoresAndItsReach :
    (-128 ≤ (127 : Int) ∧ (127 : Int) ≤ 127 ∧ (127 : Int) ≤ 127 ∧ (0 : Int) < 127) ∧
    (-128 ≤ (-128 : Int) ∧ (-128 : Int) ≤ 127 ∧ (128 : Int) ≤ 128) ∧ (-128 ≤ (-1 : Int) ∧ (-1 : Int) ≤ 127 ∧
        (-1 : Int) ≠ 0) := by
  decide

theorem witness_phases : boot.booting = true ∧ ready.booting = false := by decide

theorem witness_SetRelMouseRemembersBooting : boot.booting = true ∧ ready.booting = false := witness_phases

theorem witness_InterrogateMouseOffersAbsolutePacket : FifoWf ready.cfg.outCap ready.out ∧ Room ready.dispatched 6 :=
  ⟨ready_fifo, by refine ⟨?_, ?_, ?_⟩ <;> decide⟩

theorem witness_ResumeOnlyClearsPause : ready.booting = false ∧
    ∃ t u, exec .pause ready = .next t ∧ exec .resume t = .next u := ⟨by decide, _, _, rfl, rfl⟩

theorem witness_PauseStopsPacketsInReadyOnly : ready.booting = false ∧ boot.booting = true ∧
    State.pause { ready with pause := true } = true := by decide

theorem witness_DisableCommandsAndBothDisabledQuirk : ready.booting = false ∧
    (boot.booting = true ∧ boot.jdis = false ∧ boot.mdis = false) ∧
    (let s : State := { boot with jdis := true, mdis := true }; s.booting = true ∧ s.jdis = true ∧ s.mdis =
        true) := by decide

theorem witness_SetJoyAutoHonoursOverride : State.medr { boot with medr := true } = true ∧
    State.mdis { ready with mdis := true } = true ∧ (ready.medr = false ∧ ready.mdis = false) := by decide

theorem witness_JoystickModeCommands : (0x01 : Byte) ≠ 0 ∧ (0xFF : Byte) ≠ 0 := by decide

theorem witness_InterrogateJoyOffersPolledSticks : FifoWf ready.cfg.outCap ready.out ∧ Room ready.dispatched 3 :=
  ⟨ready_fifo, by refine ⟨?_, ?_, ?_⟩ <;> decide⟩

theorem witness_MalformedResetIsIgnored : (0x00 : Byte) ≠ 0x01 ∧ (0x02 : Byte) ≠ 0x01 := by decide

theorem witness_BootTimerExpiryOpensReady : (Inv boot ∧ boot.timerArmed = true) ∧ ready.timerArmed = false :=
  ⟨⟨boot_inv, by decide⟩, by decide⟩

/-- A command with a response and a tick, taken while Booting. -/
theorem witness_BootingSuppressesOutputUntilExpiry : ∃ s t : State, Inv s ∧ s.booting = true ∧ step s = .next t ∧
    ¬ Takes s .bootTimerExpire :=
  ⟨{ boot with inputs := [.hostByte 0x8B] }, _,
    inv_of_fields (by decide) ⟨by decide, by decide, by decide, by decide⟩ (by decide) (by decide), by decide, rfl,
    fun h => by obtain ⟨r, h⟩ := h; cases h⟩

/-- A state for each mouse mode and each joystick mode, with room for a report. -/
theorem witness_report_modes : FifoWf ready.cfg.outCap ready.out ∧ Room ready.dispatched 8 ∧
    ready.mmode = .relative ∧ State.mmode { ready with mmode := .absolute } = .absolute ∧
    State.mmode { ready with mmode := .cursorKey } = .cursorKey ∧ State.mmode { ready with mmode := .off } = .off ∧
    ready.jmode = .auto ∧ State.jmode { ready with jmode := .off } = .off ∧
    State.jmode { ready with jmode := .monitoring } = .monitoring :=
  ⟨ready_fifo, ready_room.2, by decide⟩

theorem witness_MouseModeReportsOfferModeFrame : FifoWf ready.cfg.outCap ready.out ∧ Room ready.dispatched 8 :=
  ⟨ready_fifo, ready_room.2⟩

theorem witness_MouseSettingReportsOfferFrames : FifoWf ready.cfg.outCap ready.out ∧ Room ready.dispatched 8 :=
  ⟨ready_fifo, ready_room.2⟩

theorem witness_JoystickReportsOfferFrames : FifoWf ready.cfg.outCap ready.out ∧ Room ready.dispatched 8 :=
  ⟨ready_fifo, ready_room.2⟩

/-- Two bytes wait in a FIFO of 8, the second past the wrap. -/
def wrapped : State :=
    { State.initial { outCap := 8 } with booting := false, timerArmed := false, out := ⟨[2, 0, 0, 0, 0, 0, 0, 1], 7, 1, 2⟩ }

theorem wrapped_fifo : FifoWf wrapped.cfg.outCap wrapped.out := ⟨by decide, by decide, by decide, by decide⟩

theorem witness_OutPopTakesOldestByte : (FifoWf wrapped.cfg.outCap wrapped.out ∧ 0 < wrapped.out.count) ∧
    ready.out.count = 0 :=
  ⟨⟨wrapped_fifo, by decide⟩, by decide⟩

theorem witness_NoStepFailsForLackOfSpace :
    let s : State := { wrapped with out := ⟨[1, 2, 3, 4, 5, 6, 7, 8], 3, 3, 8⟩ }
    s.cfg.wf = true ∧ 0 < [(0x1E : Byte)].length ∧ s.out.count = s.cfg.outCap := by decide

theorem witness_KeyByteFormat : 0x76 ≤ (0x76 : BitVec 7).toNat ∧ 0x76 ≤ (0x7F : BitVec 7).toNat := by decide

theorem witness_KeyTransitionWritesStateAndOffersByte : FifoWf ready.cfg.outCap ready.out ∧
    ready.jmode ≠ .monitoring ∧ Room ready 1 ∧
    State.jmode { ready with jmode := .monitoring } = .monitoring :=
  ⟨ready_fifo, by decide, by refine ⟨?_, ?_, ?_⟩ <;> decide, by decide⟩

/-- The least and the greatest sum that fit. -/
theorem witness_MouseMotionAccumulates :
    (-(2 ^ 31) ≤ (0x80000001 : Word32).toInt + (0xFFFF : Word16).toInt ∧
        (0x80000001 : Word32).toInt + (0xFFFF : Word16).toInt < 2 ^ 31) ∧
    (-(2 ^ 31) ≤ (0x7FFFFFFE : Word32).toInt + (1 : Word16).toInt ∧
        (0x7FFFFFFE : Word32).toInt + (1 : Word16).toInt < 2 ^ 31) := by
  decide

theorem witness_EdgesCompareOnlyPressed :
    State.btnR { ready with btnR := 0b10, btnRPrev := 0b01 } = 0b10 ∧
        State.btnRPrev { ready with btnR := 0b10, btnRPrev := 0b01 } = 0b01 := by
  decide

theorem witness_TickPollsSticksAndMovesPosition : ready.mmode ≠ .off ∧ State.mmode { ready with mmode := .off } =
    .off := by decide

theorem witness_MonitoringTickOffersRawSticksOnly : ∃ s : State, FifoWf s.cfg.outCap s.out ∧ s.jmode =
    .monitoring ∧ Room s 2 :=
  ⟨{ ready with jmode := .monitoring }, ready_fifo, rfl, by refine ⟨?_, ?_, ?_⟩ <;> decide⟩

/-- Nothing owed at the threshold itself; a packet owed one count past it, for an edge, and with either Y sign. -/
theorem witness_RelativeStepOffersClampedMotion : FifoWf ready.cfg.outCap ready.out ∧ Room ready 3 ∧
    (exceeds ready.cfg.threshStrict 1 ready.thrX.toNat = false ∧
        exceeds ready.cfg.threshStrict (-1) ready.thrY.toNat = false ∧
      edgeL ready = false ∧ edgeR ready = false) ∧
    exceeds ready.cfg.threshStrict 2 ready.thrX.toNat = true ∧ exceeds ready.cfg.threshStrict (-2) ready.thrY.toNat = true ∧
    edgeL { ready with btnL := 1 } = true ∧ edgeR { ready with btnRPrev := 1 } = true ∧ ready.ysign = false ∧
    State.ysign { ready with ysign := true } = true :=
  ⟨ready_fifo, by refine ⟨?_, ?_, ?_⟩ <;> decide, by decide⟩

theorem witness_RelativeReportPolicies :
    (ready.cfg.relLoop = .perTick ∧ relStep ready = none) ∧
    (let s : State := { ready with deltaX := 300 }; s.cfg.relLoop = .perTick ∧ ∃ t, relStep s = some t) ∧
    (let s : State := { ready with cfg := { ready.cfg with relLoop := .untilConverged }, deltaX := 300 };
      s.cfg.relLoop = .untilConverged) := ⟨by decide, ⟨rfl, _, rfl⟩, rfl⟩

/-- Each case of an axis at its boundary, step sizes 1 and 0, and each edge. -/
theorem witness_CursorStepOffersStrokesThenEdges : FifoWf ready.cfg.outCap ready.out ∧ Room ready 6 ∧
    stepsBack (-1) 1 = true ∧ stepsForward 1 1 = true ∧ stepsBack (-1) 0 = true ∧ stepsForward 1 0 = true ∧
    (stepsBack 0 0 = false ∧ stepsForward 0 0 = false) ∧ (stepsBack (-1) 2 = false ∧ stepsForward 1 2 = false) ∧
    edgeL { ready with btnL := 1 } = true ∧ edgeR { ready with btnR := 1 } = true :=
  ⟨ready_fifo, by refine ⟨?_, ?_, ?_⟩ <;> decide, by decide⟩

theorem witness_MouseReportFollowsActionAndMode : FifoWf ready.cfg.outCap ready.out ∧ Room ready 9 ∧
    (let s : State := { ready with action := 0b111, btnL := 1, btnRPrev := 1 };
      s.action.getLsbD 2 = true ∧ edgeL s = true ∧ edgeR s = true) ∧
    (let s : State := { ready with action := 0b011, btnL := 1, btnRPrev := 1 };
      s.action.getLsbD 2 = false ∧ (s.action.getLsbD 0 = true ∧ pressEdge s = true) ∧ (s.action.getLsbD 1 =
        true ∧ releaseEdge s = true)) ∧
    (ready.action.getLsbD 2 = false ∧ edgeL ready = false ∧ edgeR ready = false ∧ ready.mmode = .relative) :=
  ⟨ready_fifo, by refine ⟨?_, ?_, ?_⟩ <;> decide, by decide⟩

theorem witness_AutoReportSendsChangedSticks : FifoWf ready.cfg.outCap ready.out ∧ Room ready 4 ∧
    (ready.jcur0 = ready.jprev0 ∧ ready.jcur1 = ready.jprev1) ∧
    (let s : State := { ready with jcur0 := 0x01, jcur1 := 0x82 }; s.jcur0 ≠ s.jprev0 ∧ s.jcur1 ≠ s.jprev1) :=
  ⟨ready_fifo, by refine ⟨?_, ?_, ?_⟩ <;> decide, by decide⟩

theorem witness_TickOrdersItsReports : ready.jmode = .auto ∧ State.jmode { ready with jmode := .off } = .off ∧
    State.jmode { ready with jmode := .monitoring } = .monitoring ∧
    (-(2 ^ 31) ≤ (0x80000001 : Word32).toInt + (-1 : Word32).toInt ∧
        (0x80000001 : Word32).toInt + (-1 : Word32).toInt < 2 ^ 31) ∧
    (-(2 ^ 31) ≤ (0x7FFFFFFE : Word32).toInt + (1 : Word32).toInt ∧
        (0x7FFFFFFE : Word32).toInt + (1 : Word32).toInt < 2 ^ 31) := by
  decide

theorem witness_TickOutputIsBounded : ready.cfg.relLoop = .perTick ∧ ∃ t, takeEvent (.tick 0x04 0x81) ready =
    .next t := ⟨rfl, _, rfl⟩

/-- A tick is next, which is no reset; and a command that writes a mouse register. -/
theorem witness_MouseRegistersChangeOnlyByTheirWriters : ∃ s t : State, step s = .next t ∧ ¬ Resets s ∧
    t.deltaX ≠ s.deltaX := by
  refine ⟨{ ready with inputs := [.tick 0 0], accX := 1 }, _, rfl, ?_, by decide⟩
  rintro (⟨r, h⟩ | ⟨b, more, ⟨r, h⟩, -⟩) <;> cases h

theorem witness_OtherRegistersChangeOnlyByTheirWriters :
    (∃ s t : State, step s = .next t ∧ ¬ Resets s ∧ t.keyState ≠ s.keyState) ∧
    (∃ s t : State, step s = .next t ∧ t.clock ≠ s.clock) := by
  refine ⟨⟨keyNext, _, rfl, ?_, by decide +kernel⟩, ⟨{ ready with inputs := [.coldReset], clock := [1] }, _, rfl, by decide +kernel⟩⟩
  rintro (⟨r, h⟩ | ⟨b, more, ⟨r, h⟩, -⟩) <;> cases h

end Sys2Proof.Tests
end

section
/-! The scope: which event a step takes, and which configurations it refuses (O10). -/

namespace Sys2Proof.Machine

/-- The model writes "a power of two" as the decidable test `2 ^ log2 n = n`; this ties it to the plain meaning. -/
theorem two_pow_log2_eq_iff {n : Nat} : 2 ^ Nat.log2 n = n ↔ ∃ k, n = 2 ^ k := by
  constructor
  · exact fun h => ⟨Nat.log2 n, h.symm⟩
  · rintro ⟨k, rfl⟩
    rw [Nat.log2_two_pow]

/-- What U7 and D42 ask of OUT_CAP (log 6). -/
theorem Config.wf_iff {c : Config} : c.wf = true ↔ 8 ≤ c.outCap ∧ ∃ k, c.outCap = 2 ^ k := by
  simp only [Config.wf, Config.roomForPackets, Config.capPowerOfTwo, Bool.and_eq_true, decide_eq_true_eq,
    two_pow_log2_eq_iff]

theorem step_idle {s : State} (hc : s.cfg.wf = true) (hi : s.inputs = []) : step s = .next s := by
  simp only [step, hc, if_true, takeNext, hi]

theorem step_refused {s : State} (hc : ¬ s.cfg.wf = true) : step s = .refused .badConfiguration := if_neg hc

/-- Settles O10: each capacity outside `Config.wf_iff` breaks one of its two conditions, so the step refuses. -/
theorem stepTakesNextEvent : Obligations.StepTakesNextEvent := by
  unfold Obligations.StepTakesNextEvent
  refine ⟨fun _ _ _ => step_eq, fun _ => step_idle, fun s hc => step_refused (by simp [hc]), fun _ => Config.wf_iff,
    fun s hsmall => step_refused fun hc => ?_, fun s _ hpow => step_refused fun hc => ?_⟩
  · obtain ⟨hroom, -⟩ := Config.wf_iff.mp hc
    omega
  · obtain ⟨-, k, hk⟩ := Config.wf_iff.mp hc
    exact hpow k hk

end Sys2Proof.Machine
end

section
/-! What one command does, said once: `CommandEffect s i t` lists the results `exec i s` can have (R125, R141 to R216). -/

namespace Sys2Proof.Machine

/-- The results command `i` can have in `s`. Every response command is an `offer`, of whatever packet; a command without an
effect of its own, or one its guard makes ineffective, is `nothing`. RESET with its key is apart, in `exec_reset`. -/
inductive CommandEffect (s : State) : Instr → State → Prop
  | nothing {i : Instr} : CommandEffect s i s.dispatched
  | offer {i : Instr} (p : List Byte) : CommandEffect s i (enqueue p s.dispatched)
  | setMouseAction (a : Byte) : CommandEffect s (.setMouseAction a) { s.dispatched with action := a.extractLsb' 0 3 }
  | setRelMouse (ready : s.booting = false) : CommandEffect s .setRelMouse { s.dispatched with mmode := .relative }
  | setRelMouseBooting (booting : s.booting = true) :
      CommandEffect s .setRelMouse { s.dispatched with mmode := .relative, medr := true }
  | setAbsMouse (x y : Word16) : CommandEffect s (.setAbsMouse x y)
      (clampPos { s.dispatched with mmode := .absolute, maxX := x, maxY := y })
  | setKeycodeMouse (kx ky : Byte) :
      CommandEffect s (.setKeycodeMouse kx ky) { s.dispatched with mmode := .cursorKey, kcX := kx, kcY := ky }
  | setThreshold (tx ty : Byte) : CommandEffect s (.setThreshold tx ty) { s.dispatched with thrX := tx, thrY := ty }
  | setScale (sx sy : Byte) : CommandEffect s (.setScale sx sy) { s.dispatched with scaleX := sx, scaleY := sy }
  | interrogateMouse : CommandEffect s .interrogateMouse (absReport s.dispatched)
  | loadMousePos (f : Byte) (x y : Word16) :
      CommandEffect s (.loadMousePos f x y) (clampPos { s.dispatched with absX := x, absY := y })
  | setYsignPos : CommandEffect s .setYsignPos { s.dispatched with ysign := false }
  | setYsignNeg : CommandEffect s .setYsignNeg { s.dispatched with ysign := true }
  | pause (ready : s.booting = false) : CommandEffect s .pause { s.dispatched with pause := true }
  | setJoyAuto : CommandEffect s .setJoyAuto
      { s.dispatched with jmode := .auto, mmode := if s.medr || s.mdis then .relative else .off }
  | setJoyOff : CommandEffect s .setJoyOff { s.dispatched with jmode := .off }
  | setJoyMonitor (r : Byte) : CommandEffect s (.setJoyMonitor r)
      { s.dispatched with jmode := .monitoring, jrate := if r = 0 then 1 else r }
  | disableMouse (ready : s.booting = false) : CommandEffect s .disableMouse { s.dispatched with mmode := .off }
  | disableMouseBooting (booting : s.booting = true) (other : s.jdis = false) :
      CommandEffect s .disableMouse { s.dispatched with mmode := .off, mdis := true }
  | disableMouseQuirk (booting : s.booting = true) (other : s.jdis = true) : CommandEffect s .disableMouse
      { s.dispatched with mmode := .relative, mdis := true, jmode := .auto, both := true }
  | disableJoy (ready : s.booting = false) : CommandEffect s .disableJoy { s.dispatched with jmode := .off }
  | disableJoyBooting (booting : s.booting = true) (other : s.mdis = false) :
      CommandEffect s .disableJoy { s.dispatched with jmode := .off, jdis := true }
  | disableJoyQuirk (booting : s.booting = true) (other : s.mdis = true) : CommandEffect s .disableJoy
      { s.dispatched with mmode := .relative, jdis := true, jmode := .auto, both := true }

section
variable {s t : State}

/-- A command whose handler puts one packet on the delayed path only offers it. -/
theorem CommandEffect.of_delayed {i : Instr} {d : Nat} {p : State → List Byte}
    (h : dispatch (fun s => enqueueDelayed d (p s) s) s = .next t) : CommandEffect s i t := by
  simp only [enqueueDelayed_eq] at h
  cases h
  exact .offer (p { s with pause := false })

/-- The outcome `c` describes is the one the command answers. -/
theorem CommandEffect.of_eq {i : Instr} {u : State} {o : Host.Outcome State Fault Refusal} (c : CommandEffect s i u)
    (h : o = .next t) (e : o = .next u) : CommandEffect s i t := by
  cases e.symm.trans h
  exact c

/-- RESET with its key is a warm reset (R172, R318). -/
theorem exec_reset (s : State) : exec (.reset 0x01) s = .next (s.dispatched.resetTo .warm) := rfl

theorem execReset_effect {k : Byte} (hk : k ≠ 0x01) (h : execReset k s = .next t) : CommandEffect s (.reset k) t :=
  CommandEffect.nothing.of_eq h (by simp only [execReset, dispatch, if_neg hk]; rfl)

theorem execSetRelMouse_effect (h : execSetRelMouse s = .next t) : CommandEffect s .setRelMouse t := by
  cases hb : s.booting with
  | false =>
    exact (CommandEffect.setRelMouse hb).of_eq h (by simp [execSetRelMouse, dispatch, State.dispatched, hb])
  | true =>
    exact (CommandEffect.setRelMouseBooting hb).of_eq h (by simp [execSetRelMouse, dispatch, State.dispatched, hb])

theorem execPause_effect (h : execPause s = .next t) : CommandEffect s .pause t := by
  cases hb : s.booting with
  | false => exact (CommandEffect.pause hb).of_eq h (by simp [execPause, dispatch, State.dispatched, hb])
  | true => exact CommandEffect.nothing.of_eq h (by simp [execPause, dispatch, State.dispatched, hb])

/-- DISABLE_MOUSE in Ready, in Booting, and in Booting after DISABLE_JOY (R174, R326). -/
theorem execDisableMouse_effect (h : execDisableMouse s = .next t) : CommandEffect s .disableMouse t := by
  cases hb : s.booting with
  | false =>
    exact (CommandEffect.disableMouse hb).of_eq h (by simp [execDisableMouse, dispatch, State.dispatched, hb])
  | true =>
    cases hj : s.jdis with
    | false =>
      exact (CommandEffect.disableMouseBooting hb hj).of_eq h
        (by simp [execDisableMouse, dispatch, State.dispatched, bothDisabledQuirk, hb, hj])
    | true =>
      exact (CommandEffect.disableMouseQuirk hb hj).of_eq h
        (by simp [execDisableMouse, dispatch, State.dispatched, bothDisabledQuirk, hb, hj])

/-- DISABLE_JOY in Ready, in Booting, and in Booting after DISABLE_MOUSE (R182, R326). -/
theorem execDisableJoy_effect (h : execDisableJoy s = .next t) : CommandEffect s .disableJoy t := by
  cases hb : s.booting with
  | false =>
    exact (CommandEffect.disableJoy hb).of_eq h (by simp [execDisableJoy, dispatch, State.dispatched, hb])
  | true =>
    cases hm : s.mdis with
    | false =>
      exact (CommandEffect.disableJoyBooting hb hm).of_eq h
        (by simp [execDisableJoy, dispatch, State.dispatched, bothDisabledQuirk, hb, hm])
    | true =>
      exact (CommandEffect.disableJoyQuirk hb hm).of_eq h
        (by simp [execDisableJoy, dispatch, State.dispatched, bothDisabledQuirk, hb, hm])

/-- The inversion of `exec`, one arm per command. -/
theorem exec_effect {i : Instr} (hi : i ≠ .reset 0x01) (h : exec i s = .next t) : CommandEffect s i t := by
  unfold exec at h
  cases i with
  | setMouseAction a => cases h; exact .setMouseAction a
  | setRelMouse => exact execSetRelMouse_effect h
  | setAbsMouse x y => cases h; exact .setAbsMouse x y
  | setKeycodeMouse kx ky => cases h; exact .setKeycodeMouse kx ky
  | setThreshold tx ty => cases h; exact .setThreshold tx ty
  | setScale sx sy => cases h; exact .setScale sx sy
  | interrogateMouse => cases h; exact .interrogateMouse
  | loadMousePos f x y => cases h; exact .loadMousePos f x y
  | setYsignPos => cases h; exact .setYsignPos
  | setYsignNeg => cases h; exact .setYsignNeg
  | resume => cases h; exact .nothing
  | disableMouse => exact execDisableMouse_effect h
  | pause => exact execPause_effect h
  | setJoyAuto => cases h; exact .setJoyAuto
  | setJoyOff => cases h; exact .setJoyOff
  | interrogateJoy => exact .of_delayed h
  | setJoyMonitor r => cases h; exact .setJoyMonitor r
  | nop18 => cases h; exact .nothing
  | nop19 => cases h; exact .nothing
  | disableJoy => exact execDisableJoy_effect h
  | reset k => exact execReset_effect (fun hk => hi (congrArg Instr.reset hk)) h
  | reportAction => exact .of_delayed h
  | reportMouseMode88 => exact .of_delayed h
  | reportMouseMode89 => exact .of_delayed h
  | reportMouseMode8A => exact .of_delayed h
  | reportThreshold => exact .of_delayed h
  | reportScale => exact .of_delayed h
  | reportYsign8F => exact .of_delayed h
  | reportYsign90 => exact .of_delayed h
  | reportMouseAvail => exact .of_delayed h
  | reportJoyMode94 => exact .of_delayed h
  | reportJoyMode95 => exact .of_delayed h
  | reportJoyMode99 => exact .of_delayed h
  | reportJoyAvail => exact .of_delayed h

end

end Sys2Proof.Machine
end

section
/-! The invariant at reset and under every step (R50): O1 and O2. -/

namespace Sys2Proof.Machine

section
variable {s t : State}

/-! ### The parser -/

theorem lookup_len_le {c : Byte} {e : CommandRow} (h : lookup c = some e) : e.len ≤ longestCommand := by
  have hall : ∀ r ∈ commandTable, r.len ≤ longestCommand := by decide
  exact hall e (List.mem_of_find?_eq_some h)

/-- Whatever CMDBUF holds, CMDLEN = 0 meets R50.2 and R50.3. -/
theorem Inv.of_emptyBuffer (hi : Inv s) (rest : List Event) (buf : Vector Byte 8) :
    Inv { s with inputs := rest, cmdBuf := buf, cmdLen := 0 } :=
  { hi with cmdLen := Nat.zero_le _, pending := by simp }

theorem Inv.of_inputs (hi : Inv s) (rest : List Event) : Inv { s with inputs := rest } := { hi with }

/-- A byte that a known command still waits for keeps R50.2 and R50.3 (R124). -/
theorem Inv.of_wait (hi : Inv s) {buf : Vector Byte 8} {len : Fin 9} {e : CommandRow} (hl : lookup buf[0] = some e)
    (hlt : len.val < e.len) : Inv { s with cmdBuf := buf, cmdLen := len } :=
  have hmax : e.len ≤ 7 := lookup_len_le hl
  { hi with
    cmdLen := Nat.le_of_lt_succ (Nat.lt_of_lt_of_le hlt hmax)
    pending := fun _ => ⟨e.len, by simp [commandLength, hl], hlt⟩ }

theorem Inv.dispatched (hi : Inv s) : Inv s.dispatched :=
  { hi with cmdLen := Nat.zero_le _, pending := by simp [State.dispatched], bootUnpaused := fun _ => rfl }

/-! ### The shared operations -/

theorem enqueue_inv (hi : Inv s) (p : List Byte) : Inv (enqueue p s) :=
  { hi with
    fifo := enqueue_fifoWf hi.fifo
    bootEmpty := fun hb => by
      rw [enqueue_while_booting (s := s) hb]
      exact hi.bootEmpty hb }

theorem umin16_le_right (a b : Word16) : (umin16 a b).toNat ≤ b.toNat := by
  unfold umin16
  split
  · assumption
  · exact Nat.le_refl _

theorem withSrcJoy_false_bit (m : BitVec 2) : (withSrcJoy m false).getLsbD 1 = false := by simp [withSrcJoy]

theorem withSrcMouse_bit (m : BitVec 2) (v : Bool) : (withSrcMouse m v).getLsbD 1 = m.getLsbD 1 := by
  revert m v
  decide

/-- No reset leaves a joystick source on a button (R58, D27). -/
theorem resetButton_bit (k : ResetKind) (m : BitVec 2) : (resetButton k m).getLsbD 1 = false := by
  cases k with
  | cold => simp [resetButton]
  | warm => exact withSrcJoy_false_bit m

/-- What a reset sets up, given the form of the registers it keeps: OUTBUF and, when warm, CLOCK (R317). -/
theorem resetTo_inv_of_lengths (k : ResetKind) (hc : s.cfg.wf = true) (hbuf : s.out.buf.length = s.cfg.outCap)
    (hclock : s.clock.length = s.cfg.nClock) : Inv (s.resetTo k) where
  cfg := hc
  fifo := by
    obtain ⟨hroom, -⟩ := Config.wf_iff.mp hc
    exact ⟨hbuf, Nat.lt_of_lt_of_le (Nat.succ_pos 7) hroom, Nat.zero_le _, (Nat.zero_mod _).symm⟩
  cmdLen := Nat.zero_le _
  pending := by simp [State.resetTo]
  absX := Nat.zero_le _
  absY := Nat.zero_le _
  jrate := by simp [State.resetTo]
  timer := rfl
  bootEmpty := fun _ => rfl
  bootUnpaused := fun _ => rfl
  medr := nofun
  btnL := resetButton_bit k s.btnL
  jcur0 := by simp [State.resetTo]
  jcur1 := by simp [State.resetTo]
  jprev0 := by simp [State.resetTo]
  jprev1 := by simp [State.resetTo]
  clock := by
    cases k with
    | cold => exact List.length_replicate
    | warm => exact hclock

/-- The start state is what a cold reset leaves, but for CMDBUF and the environment's lists (R319). -/
theorem initial_inv {c : Config} (hc : c.wf = true) : Inv (State.initial c) :=
  { resetTo_inv_of_lengths (s := State.initial c) .cold hc List.length_replicate List.length_replicate with
    pending := by simp [State.initial] }

/-- Settles O1: the start state is a cold reset's. -/
theorem resetStateMeetsInvariant : Obligations.ResetStateMeetsInvariant :=
  ⟨initial_inv (by decide), fun _ => initial_inv⟩

/-- Settles O29: every value is a constant of the default configuration. -/
theorem resetStateHoldsColdColumn : Obligations.ResetStateHoldsColdColumn := by
  unfold Obligations.ResetStateHoldsColdColumn
  refine ⟨?_, ?_, ?_, ?_, ?_, fun k => ?_, ?_, rfl⟩
  case refine_6 => exact Vector.getElem_replicate k.isLt
  all_goals decide

theorem resetTo_inv (hi : Inv s) (k : ResetKind) : Inv (s.resetTo k) :=
  resetTo_inv_of_lengths k hi.cfg hi.fifo.length hi.clock

/-- Engine work keeps the invariant (R231): it leaves the FIFO in form, and alone while Booting. -/
theorem Inv.of_reports (hi : Inv s) (h : Reports s t) : Inv t := by
  have hfifo := h.fifo hi.fifo
  have hboot := h.boot
  have hstick0 : t.jprev0 &&& 0x70 = 0 := by
    rcases h.stick0 with e | e
    · exact e ▸ hi.jprev0
    · exact e ▸ hi.jcur0
  have hstick1 : t.jprev1 &&& 0x70 = 0 := by
    rcases h.stick1 with e | e
    · exact e ▸ hi.jprev1
    · exact e ▸ hi.jcur1
  rw [h.rest]
  exact { hi with
    fifo := hfifo
    bootEmpty := fun hb => (congrArg OutFifo.count (hboot hb)).trans (hi.bootEmpty hb)
    jprev0 := hstick0
    jprev1 := hstick1 }

/-! ### Commands -/

theorem CommandEffect.inv {i : Instr} (c : CommandEffect s i t) (hs : Inv s.dispatched) : Inv t := by
  cases c with
  | nothing => exact hs
  | offer p => exact enqueue_inv hs p
  | interrogateMouse => exact hs.of_reports (absReport_reports _)
  | setAbsMouse x y => exact { hs with absX := umin16_le_right _ _, absY := umin16_le_right _ _ }
  | loadMousePos f x y => exact { hs with absX := umin16_le_right _ _, absY := umin16_le_right _ _ }
  | setRelMouseBooting hb => exact { hs with medr := fun _ => hb }
  | pause hb => exact { hs with bootUnpaused := fun b => absurd (hb.symm.trans b) Bool.false_ne_true }
  | setJoyMonitor r =>
    refine { hs with jrate := ?_ }
    show 1 ≤ (if r = 0 then 1 else r).toNat
    split
    · decide
    · next hr => exact Nat.one_le_iff_ne_zero.mpr fun h0 => hr (BitVec.eq_of_toNat_eq h0)
  | _ => exact { hs with }

theorem exec_inv {i : Instr} (hs : Inv s.dispatched) (h : exec i s = .next t) : Inv t := by
  by_cases hi : i = .reset 0x01
  · subst hi
    cases h
    exact resetTo_inv hs .warm
  · exact (exec_effect hi h).inv hs

/-! ### The tick -/

theorem joyLines_mask (m : Byte) : joyLines m &&& 0x70 = 0 := by
  rw [joyLines, BitVec.and_assoc]
  simp

theorem joyPoll_inv (hi : Inv s) (j0raw j1raw : Byte) : Inv (joyPoll j0raw j1raw s) := by
  have h0 := joyLines_mask j0raw
  have h1 := joyLines_mask j1raw
  unfold joyPoll
  split
  · exact { hi with
      jcur0 := by rw [BitVec.and_or_distrib_right, h0, BitVec.and_assoc]; simp
      jcur1 := h1 }
  all_goals exact { hi with jcur0 := h0, jcur1 := by simp [BitVec.and_assoc] }

/-- A value clamped to a register's range is held as it is. -/
theorem u16_clamp_le (v : Int) (m : Word16) : (u16 (clamp v 0 (zext16 m))).toNat ≤ m.toNat := by
  have hm := m.isLt
  rw [u16, BitVec.toNat_ofInt, clamp, zext16]
  omega

theorem tickMotion_inv (hi : Inv s) (j0raw j1raw : Byte) : Inv (tickMotion j0raw j1raw s) :=
  { joyPoll_inv hi j0raw j1raw with absX := u16_clamp_le _ _, absY := u16_clamp_le _ _ }

theorem onTick_inv (hi : Inv s) (j0raw j1raw : Byte) : Inv (onTick j0raw j1raw s) :=
  (tickMotion_inv hi j0raw j1raw).of_reports (onTick_reports j0raw j1raw s)

/-! ### The other events -/

/-- The three ends of a byte's intake (R121): discarded, waiting for more, or a command run. -/
theorem onHostByte_inv {b : Byte} (hi : Inv s) (h : onHostByte b s = .next t) : Inv t := by
  have hroom : s.cmdLen.val < 8 := by
    have := hi.cmdLen
    omega
  rcases onHostByte_cases (b := b) hroom with ⟨-, e⟩ | ⟨r, hl, hlt, e⟩ | ⟨r, i, more, -, -, -, e⟩
  all_goals rw [e, appendHostByte_eq hroom] at h
  · cases h
    exact hi.of_emptyBuffer _ _
  · cases h
    rw [appendHostByte_eq hroom] at hl
    exact hi.of_wait hl hlt
  · refine exec_inv ?_ h
    exact (hi.of_emptyBuffer s.inputs _).dispatched

theorem onKeyTransition_inv (hi : Inv s) (code : BitVec 7) (isPressed : Bool) :
    Inv (onKeyTransition code isPressed s) := by
  have hk : Inv { s with keyState := s.keyState.set code.toNat isPressed code.isLt } := { hi with }
  unfold onKeyTransition
  split
  · exact hk
  · exact enqueue_inv hk _
  · exact enqueue_inv hk _

theorem onMouseButtons_inv (hi : Inv s) (l r : Bool) : Inv (onMouseButtons l r s) :=
  { hi with btnL := (withSrcMouse_bit s.btnL l).trans hi.btnL }

theorem onBootTimerExpire_inv (hi : Inv s) : Inv (onBootTimerExpire s) := by
  have hready : Inv { s with timerArmed := false, booting := false, medr := false } :=
    { hi with timer := rfl, bootEmpty := nofun, bootUnpaused := nofun, medr := nofun }
  unfold onBootTimerExpire
  split
  · rw [enqueueDelayed_eq]
    exact enqueue_inv hready _
  · exact hi

theorem onOutPop_inv (hi : Inv s) : Inv (onOutPop s) := by
  unfold onOutPop
  split
  · next hpos =>
    exact { hi with
      fifo := OutFifo.pop_wf hi.fifo hpos
      bootEmpty := fun hb => absurd (hi.bootEmpty hb) (Nat.ne_of_gt hpos) }
  · exact hi

theorem takeEvent_inv {e : Event} (hi : Inv s) (h : takeEvent e s = .next t) : Inv t := by
  cases e with
  | hostByte b => exact onHostByte_inv hi h
  | tick j0raw j1raw => cases h; exact onTick_inv hi _ _
  | keyTransition code isPressed => cases h; exact onKeyTransition_inv hi _ _
  | mouseMotion dx dy => cases h; exact { hi with }
  | mouseButtons l r => cases h; exact onMouseButtons_inv hi _ _
  | bootTimerExpire => cases h; exact onBootTimerExpire_inv hi
  | outPop => cases h; exact onOutPop_inv hi
  | coldReset => cases h; exact resetTo_inv hi .cold

/-- Settles O2: each event's operation keeps the invariant. -/
theorem everyStepKeepsInvariant : Obligations.EveryStepKeepsInvariant := by
  intro s t hi h
  obtain ⟨-, ⟨-, rfl⟩ | ⟨e, rest, -, he⟩⟩ := step_cases h
  · exact hi
  · exact takeEvent_inv (hi.of_inputs rest) he

end

end Sys2Proof.Machine
end

section
/-! Noninterference (R53, R54): what the wire cannot tell apart stays so under every step (O3). `Twins` is the relation of
two such states, `WireBlind` says that an operation keeps it, and each operation of the model is shown blind from the
operations it is made of. -/

namespace Sys2Proof.Machine

/-- `s` with other contents in everything that R54 and R23 call unobservable. -/
def State.withHidden (s : State) (keys : Vector Bool 128) (clock : List Byte) (both : Bool) (cmd : Vector Byte 8)
    (buf : List Byte) : State :=
  { s with keyState := keys, clock := clock, both := both, cmdBuf := cmd, out := { s.out with buf := buf } }

/-- Two FIFOs with the same queue in the same slots; the other slots may hold anything. -/
structure SameQueue (cap : Nat) (f g : OutFifo) : Prop where
  left : FifoWf cap f
  right : FifoWf cap g
  head : g.head = f.head
  count : g.count = f.count
  contents : g.contents cap = f.contents cap

section
variable {cap : Nat} {f g : OutFifo}

theorem SameQueue.eq_left (h : SameQueue cap f g) : g = { f with buf := g.buf } := by
  have htail : g.tail = f.tail := by rw [h.left.tail, h.right.tail, h.head, h.count]
  rw [← h.head, ← h.count, ← htail]

theorem SameQueue.pushAll {p : List Byte} (h : SameQueue cap f g) (hroom : f.count + p.length ≤ cap) :
    SameQueue cap (f.pushAll cap p) (g.pushAll cap p) where
  left := OutFifo.pushAll_wf h.left hroom
  right := OutFifo.pushAll_wf h.right (h.count ▸ hroom)
  head := by simp [h.head]
  count := by simp [h.count]
  contents := by
    rw [OutFifo.pushAll_contents h.left hroom, OutFifo.pushAll_contents h.right (h.count ▸ hroom), h.contents]

theorem SameQueue.front_cons_pop (h : SameQueue cap f g) (hpos : 0 < f.count) :
    g.front :: (g.pop cap).contents cap = f.front :: (f.pop cap).contents cap := by
  rw [← OutFifo.pop_contents h.left hpos, ← OutFifo.pop_contents h.right (h.count ▸ hpos), h.contents]

theorem SameQueue.front (h : SameQueue cap f g) (hpos : 0 < f.count) : g.front = f.front :=
  (List.cons.inj (h.front_cons_pop hpos)).1

theorem SameQueue.pop (h : SameQueue cap f g) (hpos : 0 < f.count) : SameQueue cap (f.pop cap) (g.pop cap) where
  left := OutFifo.pop_wf h.left hpos
  right := OutFifo.pop_wf h.right (h.count ▸ hpos)
  head := by simp [OutFifo.pop, h.head]
  count := by simp [OutFifo.pop, h.count]
  contents := (List.cons.inj (h.front_cons_pop hpos)).2

end

/-- Two states the wire cannot tell apart, with a FIFO in the form of R24. -/
structure Twins (s t : State) : Prop extends WireEquiv s t where
  fifo : FifoWf s.cfg.outCap s.out

/-- A function of the state that reads nothing hidden. -/
def Visible {α : Type} (F : State → α) : Prop :=
  ∀ s keys clock both cmd buf, F (State.withHidden s keys clock both cmd buf) = F s

/-- An operation that keeps twins twins. -/
def WireBlind (f : State → State) : Prop := ∀ ⦃s t : State⦄, Twins s t → Twins (f s) (f t)

/-- An operation that touches neither buffer and carries hidden contents along, changing KEYSTATE, CLOCK and BOTH at most. -/
structure Quiet (f : State → State) : Prop where
  keeps : ∀ s, f s = { f s with cfg := s.cfg, out := s.out, cmdBuf := s.cmdBuf, cmdLen := s.cmdLen }
  hidden : ∀ s keys clock both cmd buf, ∃ keys' clock' both',
    f (State.withHidden s keys clock both cmd buf) = (f s).withHidden keys' clock' both' cmd buf

section
variable {s t : State}

theorem Twins.exists_hidden (h : Twins s t) : ∃ keys clock both cmd buf, t = s.withHidden keys clock both cmd buf :=
  ⟨_, _, _, _, _, h.rest⟩

theorem Twins.visible {α : Type} {F : State → α} (h : Twins s t) (hF : Visible F) : F t = F s := by
  obtain ⟨keys, clock, both, cmd, buf, rfl⟩ := h.exists_hidden
  exact hF s keys clock both cmd buf

theorem Twins.fifo_right (h : Twins s t) : FifoWf t.cfg.outCap t.out := by
  have hsize := h.size
  obtain ⟨keys, clock, both, cmd, buf, rfl⟩ := h.exists_hidden
  exact { h.fifo with length := hsize.trans h.fifo.length }

theorem Twins.cfg_eq (h : Twins s t) : t.cfg = s.cfg := h.visible fun _ _ _ _ _ _ => rfl

theorem Twins.queue (h : Twins s t) : SameQueue s.cfg.outCap s.out t.out where
  left := h.fifo
  right := h.cfg_eq ▸ h.fifo_right
  head := h.visible (F := fun s => s.out.head) fun _ _ _ _ _ _ => rfl
  count := h.visible (F := fun s => s.out.count) fun _ _ _ _ _ _ => rfl
  contents := by
    have hunread := h.unread
    rw [State.unread, State.unread, h.cfg_eq] at hunread
    exact hunread

/-- Twins stay twins when their FIFOs are replaced by equal queues. -/
theorem Twins.with_out {f g : OutFifo} (h : Twins s t) (hq : SameQueue s.cfg.outCap f g) :
    Twins { s with out := f } { t with out := g } where
  rest := by
    rw [h.rest, hq.eq_left]
  size := hq.right.length.trans hq.left.length.symm
  unread := by
    rw [State.unread, State.unread, h.cfg_eq]
    exact hq.contents
  command := h.command
  fifo := hq.left

/-! ### How blind operations are put together -/

theorem WireBlind.id : WireBlind fun s => s := fun _ _ h => h

theorem WireBlind.comp {f g : State → State} (hg : WireBlind g) (hf : WireBlind f) : WireBlind fun s => g (f s) :=
  fun _ _ h => hg (hf h)

theorem WireBlind.ite {c : State → Bool} {f g : State → State} (hc : Visible c) (hf : WireBlind f) (hg : WireBlind g) :
    WireBlind fun s => if c s = true then f s else g s := by
  intro s t h
  have e := h.visible hc
  dsimp only
  rw [e]
  split
  · exact hf h
  · exact hg h

theorem Quiet.blind {f : State → State} (hf : Quiet f) : WireBlind f := by
  intro s t h
  have hsize := h.size
  have hunread := h.unread
  have hcommand := h.command
  obtain ⟨keys, clock, both, cmd, buf, rfl⟩ := h.exists_hidden
  obtain ⟨keys', clock', both', e⟩ := hf.hidden s keys clock both cmd buf
  rw [e, hf.keeps s]
  exact ⟨⟨rfl, hsize, hunread, hcommand⟩, h.fifo⟩

/-- The only way onto the wire: a packet that depends on nothing hidden (R73). -/
theorem enqueue_blind {p : State → List Byte} (hp : Visible p) : WireBlind fun s => enqueue (p s) s := by
  intro s t h
  have hadmits : admits t (p s).length = admits s (p s).length := 
    h.visible (F := fun u => admits u (p s).length) fun _ _ _ _ _ _ => rfl
  dsimp only
  rw [h.visible hp]
  refine h.with_out ?_
  rw [hadmits, h.cfg_eq]
  split
  · next ha =>
    refine h.queue.pushAll ?_
    simp only [admits, Bool.and_eq_true, decide_eq_true_eq] at ha
    have := h.fifo.count
    omega
  · exact h.queue

theorem enqueueDelayed_blind {d : Nat} {p : State → List Byte} (hp : Visible p) :
    WireBlind fun s => enqueueDelayed d (p s) s := by
  simp only [enqueueDelayed_eq]
  exact enqueue_blind hp

/-- A packet offered, then an update that touches no buffer. -/
theorem Quiet.after_enqueue {u : State → State} {p : State → List Byte} (hu : Quiet u) (hp : Visible p) :
    WireBlind fun s => u (enqueue (p s) s) := hu.blind.comp (enqueue_blind hp)

end

/-! ### The mouse report engine -/

theorem clearDelta_blind : WireBlind clearDelta :=
  Quiet.blind ⟨fun _ => rfl, fun _ _ _ _ _ _ => ⟨_, _, _, rfl⟩⟩

theorem latchButtons_blind : WireBlind latchButtons :=
  Quiet.blind ⟨fun _ => rfl, fun _ _ _ _ _ _ => ⟨_, _, _, rfl⟩⟩

theorem absReport_blind : WireBlind absReport :=
  Quiet.after_enqueue (u := fun s => { s with absPrevMask := buttonLevels s.btnL s.btnR ^^^ 0b1111 })
    (p := fun s => absPacket (buttonLevels s.btnL s.btnR &&& s.absPrevMask) s.absX s.absY)
    ⟨fun _ => rfl, fun _ _ _ _ _ _ => ⟨_, _, _, rfl⟩⟩ fun _ _ _ _ _ _ => rfl

theorem offerLeftKey_blind : WireBlind offerLeftKey :=
  .ite (fun _ _ _ _ _ _ => rfl) (enqueue_blind fun _ _ _ _ _ _ => rfl) .id

theorem offerRightKey_blind : WireBlind offerRightKey :=
  .ite (fun _ _ _ _ _ _ => rfl) (enqueue_blind fun _ _ _ _ _ _ => rfl) .id

theorem keysReport_blind : WireBlind keysReport :=
  clearDelta_blind.comp (latchButtons_blind.comp (offerRightKey_blind.comp offerLeftKey_blind))

theorem forcedAbsReport_blind : WireBlind forcedAbsReport :=
  .ite (fun _ _ _ _ _ _ => rfl) absReport_blind .id

/-- The relative step where a packet is owed (R241). -/
def relAdvance (s : State) : State :=
  latchButtons { enqueue (relPacket s) s with
    deltaX := s32 (sext32 s.deltaX - relClamp s.deltaX)
    deltaY := s32 (sext32 s.deltaY - relClamp s.deltaY) }

theorem relAdvance_blind : WireBlind relAdvance :=
  latchButtons_blind.comp (Quiet.after_enqueue (p := relPacket)
    (u := fun s => { s with
      deltaX := s32 (sext32 s.deltaX - relClamp s.deltaX), deltaY := s32 (sext32 s.deltaY - relClamp s.deltaY) })
    ⟨fun _ => rfl, fun _ _ _ _ _ _ => ⟨_, _, _, rfl⟩⟩ fun _ _ _ _ _ _ => rfl)

theorem relStep_eq (s : State) : relStep s = if relDue s then some (relAdvance s) else none := rfl

theorem relLoop_succ (fuel : Nat) (s : State) :
    relLoop (fuel + 1) s = if relDue s then relLoop fuel (relAdvance s) else s := by
  rw [relLoop, relStep_eq]
  cases relDue s <;> rfl

theorem relLoop_blind (fuel : Nat) : WireBlind (relLoop fuel) := by
  induction fuel with
  | zero => exact .id
  | succ fuel ih =>
    rw [funext (relLoop_succ fuel)]
    exact .ite (fun _ _ _ _ _ _ => rfl) (ih.comp relAdvance_blind) .id

/-- At most one relative packet a tick. -/
theorem relStep_getD_blind : WireBlind fun s => (relStep s).getD s := by
  have e (s : State) : (relStep s).getD s = if relDue s then relAdvance s else s := by
    rw [relStep_eq]
    cases relDue s <;> rfl
  rw [funext e]
  exact .ite (fun _ _ _ _ _ _ => rfl) relAdvance_blind .id

theorem relReport_blind : WireBlind relReport := by
  intro s t h
  have hfuel : relFuel t = relFuel s := h.visible fun _ _ _ _ _ _ => rfl
  unfold relReport
  rw [h.cfg_eq, hfuel]
  split
  · exact relStep_getD_blind h
  · exact relLoop_blind _ h

theorem cursorStepX_blind : WireBlind cursorStepX :=
  .ite (fun _ _ _ _ _ _ => rfl)
    (Quiet.after_enqueue (u := fun s => { s with deltaX := s32 (sext32 s.deltaX + zext8 s.kcX) })
      (p := fun _ => keyStroke 0x4B) ⟨fun _ => rfl, fun _ _ _ _ _ _ => ⟨_, _, _, rfl⟩⟩ fun _ _ _ _ _ _ => rfl)
    (.ite (fun _ _ _ _ _ _ => rfl)
      (Quiet.after_enqueue (u := fun s => { s with deltaX := s32 (sext32 s.deltaX - zext8 s.kcX) })
        (p := fun _ => keyStroke 0x4D) ⟨fun _ => rfl, fun _ _ _ _ _ _ => ⟨_, _, _, rfl⟩⟩ fun _ _ _ _ _ _ => rfl)
      .id)

theorem cursorStepY_blind : WireBlind cursorStepY :=
  .ite (fun _ _ _ _ _ _ => rfl)
    (Quiet.after_enqueue (u := fun s => { s with deltaY := s32 (sext32 s.deltaY + zext8 s.kcY) })
      (p := fun _ => keyStroke 0x48) ⟨fun _ => rfl, fun _ _ _ _ _ _ => ⟨_, _, _, rfl⟩⟩ fun _ _ _ _ _ _ => rfl)
    (.ite (fun _ _ _ _ _ _ => rfl)
      (Quiet.after_enqueue (u := fun s => { s with deltaY := s32 (sext32 s.deltaY - zext8 s.kcY) })
        (p := fun _ => keyStroke 0x50) ⟨fun _ => rfl, fun _ _ _ _ _ _ => ⟨_, _, _, rfl⟩⟩ fun _ _ _ _ _ _ => rfl)
      .id)

theorem cursorButtonL_blind : WireBlind cursorButtonL :=
  .ite (fun _ _ _ _ _ _ => rfl)
    (Quiet.after_enqueue (u := fun s => { s with btnLPrev := s.btnL })
      (p := fun s => [buttonKey leftKey (pressed s.btnL)])
      ⟨fun _ => rfl, fun _ _ _ _ _ _ => ⟨_, _, _, rfl⟩⟩ fun _ _ _ _ _ _ => rfl) .id

theorem cursorButtonR_blind : WireBlind cursorButtonR :=
  .ite (fun _ _ _ _ _ _ => rfl)
    (Quiet.after_enqueue (u := fun s => { s with btnRPrev := s.btnR })
      (p := fun s => [buttonKey rightKey (pressed s.btnR)])
      ⟨fun _ => rfl, fun _ _ _ _ _ _ => ⟨_, _, _, rfl⟩⟩ fun _ _ _ _ _ _ => rfl) .id

theorem cursorStep_blind : WireBlind cursorStep :=
  cursorButtonR_blind.comp (cursorButtonL_blind.comp (cursorStepY_blind.comp cursorStepX_blind))

theorem cursorLoop_blind (n : Nat) : WireBlind (cursorLoop n) := by
  induction n with
  | zero => exact .id
  | succ n ih => exact .ite (fun _ _ _ _ _ _ => rfl) (ih.comp cursorStep_blind) .id

theorem modeStep_blind : WireBlind modeStep := by
  intro s t h
  have hmode : t.mmode = s.mmode := h.visible fun _ _ _ _ _ _ => rfl
  unfold modeStep
  rw [hmode]
  split
  · exact relReport_blind h
  · exact cursorLoop_blind _ h
  · exact clearDelta_blind h
  · exact clearDelta_blind h

theorem mouseReport_blind : WireBlind mouseReport :=
  .ite (fun _ _ _ _ _ _ => rfl) keysReport_blind
    (latchButtons_blind.comp (modeStep_blind.comp forcedAbsReport_blind))

/-! ### The joystick half and the tick -/

theorem joyAutoStick0_blind : WireBlind joyAutoStick0 :=
  .ite (fun _ _ _ _ _ _ => rfl)
    (Quiet.after_enqueue (u := fun s => { s with jprev0 := s.jcur0 }) (p := fun s => [0xFE, s.jcur0])
      ⟨fun _ => rfl, fun _ _ _ _ _ _ => ⟨_, _, _, rfl⟩⟩ fun _ _ _ _ _ _ => rfl) .id

theorem joyAutoStick1_blind : WireBlind joyAutoStick1 :=
  .ite (fun _ _ _ _ _ _ => rfl)
    (Quiet.after_enqueue (u := fun s => { s with jprev1 := s.jcur1 }) (p := fun s => [0xFF, s.jcur1])
      ⟨fun _ => rfl, fun _ _ _ _ _ _ => ⟨_, _, _, rfl⟩⟩ fun _ _ _ _ _ _ => rfl) .id

theorem joyAutoReport_blind : WireBlind joyAutoReport := joyAutoStick1_blind.comp joyAutoStick0_blind

theorem monitorTick_blind (j0raw j1raw : Byte) : WireBlind (monitorTick j0raw j1raw) :=
  (enqueue_blind (p := fun _ => monitorPacket j0raw j1raw) fun _ _ _ _ _ _ => rfl).comp clearDelta_blind

theorem joyPoll_blind (j0raw j1raw : Byte) : WireBlind (joyPoll j0raw j1raw) := by
  refine Quiet.blind ⟨fun s => ?_, fun s keys clock both cmd buf => ⟨keys, clock, both, ?_⟩⟩
  · rw [joyPoll_rest]
  · unfold joyPoll State.withHidden
    cases s.mmode <;> rfl

/-- The motion a tick takes is the one the poll leaves untouched (R231). -/
theorem tickMotion_eq (j0raw j1raw : Byte) (s : State) : tickMotion j0raw j1raw s =
    (fun u => updatePosition (sext32 u.accX) (sext32 u.accY) (takeMotion u)) (joyPoll j0raw j1raw s) := by
  unfold tickMotion joyPoll
  cases s.mmode <;> rfl

theorem tickMotion_blind (j0raw j1raw : Byte) : WireBlind (tickMotion j0raw j1raw) := by
  rw [funext (tickMotion_eq j0raw j1raw)]
  exact (Quiet.blind (f := fun u => updatePosition (sext32 u.accX) (sext32 u.accY) (takeMotion u))
    ⟨fun _ => rfl, fun _ _ _ _ _ _ => ⟨_, _, _, rfl⟩⟩).comp (joyPoll_blind j0raw j1raw)

theorem onTick_blind (j0raw j1raw : Byte) : WireBlind (onTick j0raw j1raw) := by
  intro s t h
  have hm := tickMotion_blind j0raw j1raw h
  have hmode : (tickMotion j0raw j1raw t).jmode = (tickMotion j0raw j1raw s).jmode :=
    hm.visible fun _ _ _ _ _ _ => rfl
  simp only [onTick, hmode]
  split
  · exact monitorTick_blind j0raw j1raw hm
  · exact joyAutoReport_blind (mouseReport_blind hm)
  · exact mouseReport_blind hm

/-! ### The input events -/

/-- KEYSTATE is written in every mode, the byte offered unless JMODE is Monitoring (R281). -/
theorem onKeyTransition_eq (code : BitVec 7) (isPressed : Bool) (s : State) : onKeyTransition code isPressed s =
    (fun u => if u.jmode == .monitoring then u else enqueue [keyByte code isPressed] u)
      { s with keyState := s.keyState.set code.toNat isPressed code.isLt } := by
  unfold onKeyTransition
  cases s.jmode <;> rfl

theorem onKeyTransition_blind (code : BitVec 7) (isPressed : Bool) : WireBlind (onKeyTransition code isPressed) := by
  rw [funext (onKeyTransition_eq code isPressed)]
  have hoffer : WireBlind fun u => if u.jmode == .monitoring then u else enqueue [keyByte code isPressed] u :=
    .ite (c := fun u => u.jmode == .monitoring) (fun _ _ _ _ _ _ => rfl) .id (enqueue_blind fun _ _ _ _ _ _ => rfl)
  exact hoffer.comp (Quiet.blind ⟨fun _ => rfl, fun _ _ _ _ _ _ => ⟨_, _, _, rfl⟩⟩)

theorem onMouseMotion_blind (dx dy : Word16) : WireBlind (onMouseMotion dx dy) :=
  Quiet.blind ⟨fun _ => rfl, fun _ _ _ _ _ _ => ⟨_, _, _, rfl⟩⟩

theorem onMouseButtons_blind (l r : Bool) : WireBlind (onMouseButtons l r) :=
  Quiet.blind ⟨fun _ => rfl, fun _ _ _ _ _ _ => ⟨_, _, _, rfl⟩⟩

theorem onBootTimerExpire_blind : WireBlind onBootTimerExpire :=
  .ite (fun _ _ _ _ _ _ => rfl)
    ((enqueueDelayed_blind (p := fun s => [s.cfg.bootByte]) fun _ _ _ _ _ _ => rfl).comp
      (Quiet.blind (f := fun s => { s with timerArmed := false, booting := false, medr := false })
        ⟨fun _ => rfl, fun _ _ _ _ _ _ => ⟨_, _, _, rfl⟩⟩)) .id

/-- The byte a pop puts out is one of the live region (R76). -/
theorem onOutPop_blind : WireBlind onOutPop := by
  intro s t h
  have hcount : t.out.count = s.out.count := h.queue.count
  unfold onOutPop
  rw [hcount]
  split
  · next hpos =>
    have hpop : SameQueue s.cfg.outCap (s.out.pop s.cfg.outCap) (t.out.pop t.cfg.outCap) :=
      h.cfg_eq ▸ h.queue.pop hpos
    rw [h.queue.front hpos]
    exact Quiet.blind (f := fun u => { u with outputs := u.outputs ++ [.byte s.out.front] })
      ⟨fun _ => rfl, fun _ _ _ _ _ _ => ⟨_, _, _, rfl⟩⟩ (h.with_out hpop)
  · exact h

/-- Both resets set what the wire shows to the same values, and the rest of CMDBUF is pending in neither (R317). -/
theorem resetTo_blind (k : ResetKind) : WireBlind (State.resetTo k) := by
  intro s t h
  have hsize := h.size
  have hw := h.fifo
  obtain ⟨keys, clock, both, cmd, buf, rfl⟩ := h.exists_hidden
  exact {
    rest := rfl
    size := hsize
    unread := rfl
    command := rfl
    fifo := ⟨hw.length, Nat.zero_lt_of_lt hw.head, Nat.zero_le _, (Nat.zero_mod _).symm⟩ }

theorem onColdReset_blind : WireBlind onColdReset := resetTo_blind .cold

/-! ### Commands -/

/-- Outcomes the wire cannot tell apart: where one is a next state, the other is a twin of it. -/
def Agree (o o' : Host.Outcome State Fault Refusal) : Prop :=
  ∀ s', o = .next s' → ∃ t', o' = .next t' ∧ Twins s' t'

section
variable {s t : State}

theorem Twins.agree (h : Twins s t) : Agree (.next s) (.next t) := by
  intro s' e
  cases e
  exact ⟨t, rfl, h⟩

/-- With CMDLEN = 0 no byte of CMDBUF is pending. -/
theorem clearLen_blind : WireBlind fun s => { s with cmdLen := 0 } := by
  intro s t h
  exact ⟨⟨by rw [h.rest], h.size, h.unread, by simp [State.cmdBytes]⟩, h.fifo⟩

theorem dispatch_agree {f : State → State} (hf : WireBlind f) (h : Twins s t) : Agree (dispatch f s) (dispatch f t) :=
  have hpause : WireBlind fun s => { s with pause := false } :=
    Quiet.blind ⟨fun _ => rfl, fun _ _ _ _ _ _ => ⟨_, _, _, rfl⟩⟩
  Twins.agree (clearLen_blind (hf (hpause h)))

theorem bothDisabledQuirk_blind : WireBlind bothDisabledQuirk :=
  .ite (fun _ _ _ _ _ _ => rfl) (Quiet.blind (f := fun s => { s with mmode := .relative, jmode := .auto, both := true })
    ⟨fun _ => rfl, fun _ _ _ _ _ _ => ⟨_, _, _, rfl⟩⟩) .id

theorem execReset_agree (k : Byte) (h : Twins s t) : Agree (execReset k s) (execReset k t) := by
  refine dispatch_agree ?_ h
  by_cases hk : k = 0x01
  · simp only [if_pos hk]
    exact resetTo_blind .warm
  · simp only [if_neg hk]
    exact .id

theorem execDisableMouse_agree (h : Twins s t) : Agree (execDisableMouse s) (execDisableMouse t) :=
  dispatch_agree (.ite (fun _ _ _ _ _ _ => rfl)
    (bothDisabledQuirk_blind.comp (Quiet.blind (f := fun s => { s with mmode := .off, mdis := true })
      ⟨fun _ => rfl, fun _ _ _ _ _ _ => ⟨_, _, _, rfl⟩⟩))
    (Quiet.blind ⟨fun _ => rfl, fun _ _ _ _ _ _ => ⟨_, _, _, rfl⟩⟩)) h

theorem execDisableJoy_agree (h : Twins s t) : Agree (execDisableJoy s) (execDisableJoy t) :=
  dispatch_agree (.ite (fun _ _ _ _ _ _ => rfl)
    (bothDisabledQuirk_blind.comp (Quiet.blind (f := fun s => { s with jmode := .off, jdis := true })
      ⟨fun _ => rfl, fun _ _ _ _ _ _ => ⟨_, _, _, rfl⟩⟩))
    (Quiet.blind ⟨fun _ => rfl, fun _ _ _ _ _ _ => ⟨_, _, _, rfl⟩⟩)) h

theorem execPause_agree (h : Twins s t) : Agree (execPause s) (execPause t) :=
  dispatch_agree (.ite (fun _ _ _ _ _ _ => rfl) .id
    (Quiet.blind ⟨fun _ => rfl, fun _ _ _ _ _ _ => ⟨_, _, _, rfl⟩⟩)) h

/-- A command that writes registers only. -/
theorem dispatch_quiet_agree {f : State → State} (h : Twins s t) (hf : Quiet f) : Agree (dispatch f s) (dispatch f t) :=
  dispatch_agree hf.blind h

/-- A response command. -/
theorem dispatch_delayed_agree {d : Nat} {p : State → List Byte} (h : Twins s t) (hp : Visible p) :
    Agree (dispatch (fun s => enqueueDelayed d (p s) s) s) (dispatch (fun s => enqueueDelayed d (p s) s) t) :=
  dispatch_agree (enqueueDelayed_blind hp) h

/-- By kind of command: the guarded ones, the two that offer a packet, and those that write registers only or nothing. -/
theorem exec_agree (i : Instr) (h : Twins s t) : Agree (exec i s) (exec i t) := by
  unfold exec
  cases i with
  | reset k => exact execReset_agree k h
  | disableMouse => exact execDisableMouse_agree h
  | disableJoy => exact execDisableJoy_agree h
  | pause => exact execPause_agree h
  | interrogateMouse => exact dispatch_agree absReport_blind h
  | interrogateJoy | reportAction | reportMouseMode88 | reportMouseMode89 | reportMouseMode8A | reportThreshold
  | reportScale | reportYsign8F | reportYsign90 | reportMouseAvail | reportJoyMode94 | reportJoyMode95
  | reportJoyMode99 | reportJoyAvail =>
    exact dispatch_delayed_agree h fun _ _ _ _ _ _ => rfl
  | _ => exact dispatch_quiet_agree h ⟨fun _ => rfl, fun _ _ _ _ _ _ => ⟨_, _, _, rfl⟩⟩

/-! ### The command interpreter -/

/-- The pending bytes after an accepted byte (R122). -/
theorem appendHostByte_cmdBytes {b : Byte} (h : s.cmdLen.val < 8) :
    (appendHostByte b s).cmdBytes = s.cmdBytes ++ [b] := by
  rw [appendHostByte_eq h]
  have hlen : s.cmdLen.val < s.cmdBuf.toList.length := by simpa using h
  simp only [State.cmdBytes, Vector.toList_set, List.take_add_one, List.take_set_of_le (Nat.le_refl _),
    List.getElem?_set_self hlen, Option.toList_some]

theorem appendHostByte_twins {b : Byte} (h : Twins s t) (hs : s.cmdLen.val < 8) :
    Twins (appendHostByte b s) (appendHostByte b t) := by
  have hlen : t.cmdLen = s.cmdLen := h.visible fun _ _ _ _ _ _ => rfl
  have hcommand : (appendHostByte b t).cmdBytes = (appendHostByte b s).cmdBytes := by
    rw [appendHostByte_cmdBytes hs, appendHostByte_cmdBytes (hlen ▸ hs), h.command]
  rw [appendHostByte_eq hs, appendHostByte_eq (hlen ▸ hs)] at hcommand ⊢
  have hsize := h.size
  have hunread := h.unread
  have hw := h.fifo
  obtain ⟨keys, clock, both, cmd, buf, rfl⟩ := h.exists_hidden
  exact ⟨⟨rfl, hsize, hunread, hcommand⟩, hw⟩

theorem onHostByte_agree (b : Byte) (h : Twins s t) : Agree (onHostByte b s) (onHostByte b t) := by
  have hlen : t.cmdLen = s.cmdLen := h.visible fun _ _ _ _ _ _ => rfl
  by_cases hs : s.cmdLen.val < 8
  · have ha := appendHostByte_twins (b := b) h hs
    rw [onHostByte_eq hs, onHostByte_eq (hlen ▸ hs), ha.command]
    split
    · exact exec_agree _ ha
    · exact ha.agree
    · exact (clearLen_blind ha).agree
    · exact ha.agree
  · rw [onHostByte_full hs, onHostByte_full (hlen ▸ hs)]
    exact h.agree

theorem takeEvent_agree (e : Event) (h : Twins s t) : Agree (takeEvent e s) (takeEvent e t) := by
  cases e with
  | hostByte b => exact onHostByte_agree b h
  | tick j0raw j1raw => exact (onTick_blind j0raw j1raw h).agree
  | keyTransition code isPressed => exact (onKeyTransition_blind code isPressed h).agree
  | mouseMotion dx dy => exact (onMouseMotion_blind dx dy h).agree
  | mouseButtons l r => exact (onMouseButtons_blind l r h).agree
  | bootTimerExpire => exact (onBootTimerExpire_blind h).agree
  | outPop => exact (onOutPop_blind h).agree
  | coldReset => exact (onColdReset_blind h).agree

theorem takeNext_agree (h : Twins s t) : Agree (takeNext s) (takeNext t) := by
  have hinputs : t.inputs = s.inputs := h.visible fun _ _ _ _ _ _ => rfl
  unfold takeNext
  rw [hinputs]
  split
  · exact h.agree
  · next e rest _ =>
    exact takeEvent_agree e (Quiet.blind (f := fun s => { s with inputs := rest })
      ⟨fun _ => rfl, fun _ _ _ _ _ _ => ⟨_, _, _, rfl⟩⟩ h)

end

/-- Settles O3: every operation of the block is blind to what the wire cannot show, so the step is. -/
theorem unobservableStateNeverReachesTheWire : Obligations.UnobservableStateNeverReachesTheWire := by
  intro s t s' hs _ hst hstep
  have h : Twins s t := ⟨hst, hs.fifo⟩
  have hwf : t.cfg.wf = true := h.cfg_eq ▸ hs.cfg
  rw [step, if_pos hs.cfg] at hstep
  obtain ⟨t', ht', htwins⟩ := takeNext_agree h s' hstep
  exact ⟨t', by rw [step, if_pos hwf, ht'], htwins.toWireEquiv⟩

end Sys2Proof.Machine
end

section
/-! Who writes what: R52's column W, read off one inversion lemma of the step (O54 and O55). -/

namespace Sys2Proof.Machine

/-- A step that resets the block (R316, R318). -/
inductive ResetEffect (s : State) : State → Prop
  | cold {rest : List Event} (h : Takes s .coldReset) : ResetEffect s (State.resetTo .cold { s with inputs := rest })
  | warm {rest : List Event} {buf : Vector Byte 8} {len : Fin 9} (h : Dispatches s (.reset 0x01)) : ResetEffect s
      (State.resetTo .warm (State.dispatched { s with inputs := rest, cmdBuf := buf, cmdLen := len }))

/-- Every other step, by its event, with the registers the event can write left open: nothing done (an idle step, or an event
that is not enabled), a byte stored or discarded, a command run on the state with its last byte stored, an input event. -/
inductive StepEffect (s : State) : State → Prop
  | nothing (rest : List Event) : StepEffect s { s with inputs := rest }
  | byteTaken {b : Byte} (h : Takes s (.hostByte b)) (rest : List Event) (buf : Vector Byte 8) (len : Fin 9) :
      StepEffect s { s with inputs := rest, cmdBuf := buf, cmdLen := len }
  | command {i : Instr} {t : State} {rest : List Event} {buf : Vector Byte 8} {len : Fin 9} (h : Dispatches s i)
      (effect : CommandEffect { s with inputs := rest, cmdBuf := buf, cmdLen := len } i t) : StepEffect s t
  | tick (h : TakesTick s) (u : State) : StepEffect s { s with
      inputs := u.inputs, out := u.out, accX := u.accX, accY := u.accY, absX := u.absX, absY := u.absY,
      deltaX := u.deltaX, deltaY := u.deltaY, btnR := u.btnR, btnLPrev := u.btnLPrev, btnRPrev := u.btnRPrev,
      absPrevMask := u.absPrevMask, jcur0 := u.jcur0, jcur1 := u.jcur1, jprev0 := u.jprev0, jprev1 := u.jprev1 }
  | key {code : BitVec 7} {isPressed : Bool} (h : Takes s (.keyTransition code isPressed)) (rest : List Event)
      (keys : Vector Bool 128) (out : OutFifo) : StepEffect s { s with inputs := rest, keyState := keys, out := out }
  | motion {dx dy : Word16} (h : Takes s (.mouseMotion dx dy)) (rest : List Event) (x y : Word32) :
      StepEffect s { s with inputs := rest, accX := x, accY := y }
  | buttons {l r : Bool} (h : Takes s (.mouseButtons l r)) (rest : List Event) (x y : BitVec 2) :
      StepEffect s { s with inputs := rest, btnL := x, btnR := y }
  | bootTimer (h : Takes s .bootTimerExpire) (armed : s.timerArmed = true) (rest : List Event) (out : OutFifo) :
      StepEffect s { s with inputs := rest, timerArmed := false, booting := false, medr := false, out := out }
  | outPop (rest : List Event) (out : OutFifo) (outputs : List Output) :
      StepEffect s { s with inputs := rest, out := out, outputs := outputs }

section
variable {s t : State}

/-- What a command other than RESET can write: no command touches the motion, the buttons, the sticks, the keys, the phase,
CLOCK or CMDBUF. -/
theorem CommandEffect.rest {i : Instr} (c : CommandEffect s i t) : t = { s with
    cmdLen := t.cmdLen, out := t.out, pause := t.pause, mmode := t.mmode, action := t.action, absX := t.absX,
    absY := t.absY, maxX := t.maxX, maxY := t.maxY, scaleX := t.scaleX, scaleY := t.scaleY, thrX := t.thrX,
    thrY := t.thrY, kcX := t.kcX, kcY := t.kcY, ysign := t.ysign, absPrevMask := t.absPrevMask, jmode := t.jmode,
    jrate := t.jrate, mdis := t.mdis, jdis := t.jdis, both := t.both, medr := t.medr } := by
  cases c <;> rfl

/-- What a tick can write (R231). -/
theorem onTick_rest (j0raw j1raw : Byte) (s : State) : ∃ u : State, onTick j0raw j1raw s = { s with
    out := u.out, accX := u.accX, accY := u.accY, absX := u.absX, absY := u.absY, deltaX := u.deltaX,
    deltaY := u.deltaY, btnR := u.btnR, btnLPrev := u.btnLPrev, btnRPrev := u.btnRPrev, absPrevMask := u.absPrevMask,
    jcur0 := u.jcur0, jcur1 := u.jcur1, jprev0 := u.jprev0, jprev1 := u.jprev1 } := by
  have hmotion : tickMotion j0raw j1raw s = { s with
      accX := 0, accY := 0, absX := (tickMotion j0raw j1raw s).absX, absY := (tickMotion j0raw j1raw s).absY,
      deltaX := (tickMotion j0raw j1raw s).deltaX, deltaY := (tickMotion j0raw j1raw s).deltaY,
      jcur0 := (tickMotion j0raw j1raw s).jcur0, jcur1 := (tickMotion j0raw j1raw s).jcur1,
      btnR := (tickMotion j0raw j1raw s).btnR } := by
    unfold tickMotion joyPoll
    cases s.mmode <;> rfl
  have hreports := (onTick_reports j0raw j1raw s).rest
  rw [hmotion] at hreports
  exact ⟨{ onTick j0raw j1raw s with
    accX := 0, accY := 0, absX := (tickMotion j0raw j1raw s).absX, absY := (tickMotion j0raw j1raw s).absY,
    jcur0 := (tickMotion j0raw j1raw s).jcur0, jcur1 := (tickMotion j0raw j1raw s).jcur1,
    btnR := (tickMotion j0raw j1raw s).btnR }, hreports⟩

theorem onHostByte_effect {b : Byte} {rest : List Event} (ht : s.inputs = .hostByte b :: rest)
    (h : onHostByte b { s with inputs := rest } = .next t) : ResetEffect s t ∨ StepEffect s t := by
  have htakes : Takes s (.hostByte b) := ⟨rest, ht⟩
  by_cases hroom : s.cmdLen.val < 8
  · have hstored := appendHostByte_eq (b := b) (s := { s with inputs := rest }) hroom
    rcases onHostByte_cases (b := b) (s := { s with inputs := rest }) hroom with
      ⟨-, e⟩ | ⟨-, -, -, e⟩ | ⟨-, i, more, -, -, hdecode, e⟩
    all_goals rw [e, hstored] at h
    · cases h
      exact .inr (.byteTaken htakes _ _ _)
    · cases h
      exact .inr (.byteTaken htakes _ _ _)
    · have hdispatches : Dispatches s i := by
        refine ⟨b, more, htakes, hroom, ?_⟩
        rw [hstored] at hdecode
        rw [appendHostByte_eq hroom]
        exact hdecode
      by_cases hi : i = .reset 0x01
      · subst hi
        cases h
        exact .inl (.warm hdispatches)
      · exact .inr (.command hdispatches (exec_effect hi h))
  · rw [onHostByte_full (s := { s with inputs := rest }) hroom] at h
    cases h
    exact .inr (.nothing rest)

theorem onKeyTransition_effect {code : BitVec 7} {isPressed : Bool} {rest : List Event}
    (h : Takes s (.keyTransition code isPressed)) :
    StepEffect s (onKeyTransition code isPressed { s with inputs := rest }) := by
  rw [onKeyTransition_eq]
  dsimp only
  split
  · exact .key h rest _ s.out
  · exact .key h rest _ _

theorem onBootTimerExpire_effect {rest : List Event} (h : Takes s .bootTimerExpire) :
    StepEffect s (onBootTimerExpire { s with inputs := rest }) := by
  unfold onBootTimerExpire
  rw [enqueueDelayed_eq]
  split
  · next ha => exact .bootTimer h ha rest _
  · exact .nothing rest

theorem onOutPop_effect (rest : List Event) : StepEffect s (onOutPop { s with inputs := rest }) := by
  unfold onOutPop
  split
  · exact .outPop rest _ _
  · exact .nothing rest

/-- The inversion of the step. -/
theorem step_effect (h : step s = .next t) : ResetEffect s t ∨ StepEffect s t := by
  obtain ⟨-, ⟨-, rfl⟩ | ⟨e, rest, hi, he⟩⟩ := step_cases h
  · exact .inr (.nothing t.inputs)
  · have htakes : Takes s e := ⟨rest, hi⟩
    cases e with
    | hostByte b => exact onHostByte_effect hi he
    | tick j0raw j1raw =>
      cases he
      obtain ⟨u, hu⟩ := onTick_rest j0raw j1raw { s with inputs := rest }
      rw [hu]
      exact .inr (.tick ⟨j0raw, j1raw, htakes⟩ { u with inputs := rest })
    | keyTransition code isPressed => cases he; exact .inr (onKeyTransition_effect htakes)
    | mouseMotion dx dy => cases he; exact .inr (.motion htakes rest _ _)
    | mouseButtons l r => cases he; exact .inr (.buttons htakes rest _ _)
    | bootTimerExpire => cases he; exact .inr (onBootTimerExpire_effect htakes)
    | outPop => cases he; exact .inr (onOutPop_effect rest)
    | coldReset => cases he; exact .inl (.cold htakes)

/-- A step that is no reset. -/
theorem step_effect_of_not_resets (h : step s = .next t) (hr : ¬ Resets s) : StepEffect s t := by
  rcases step_effect h with hreset | heffect
  · cases hreset with
    | cold hc => exact absurd (.inl hc) hr
    | warm hw => exact absurd (.inr hw) hr
  · exact heffect

/-! ### The mouse registers (R25 to R37) -/

theorem StepEffect.action_writer (h : StepEffect s t) (hne : t.action ≠ s.action) :
    ∃ a, Dispatches s (.setMouseAction a) := by
  cases h with
  | command hd effect =>
    cases effect with
    | setMouseAction a => exact ⟨a, hd⟩
    | _ => exact absurd rfl hne
  | _ => exact absurd rfl hne

theorem StepEffect.mmode_writer (h : StepEffect s t) (hne : t.mmode ≠ s.mmode) :
    Dispatches s .setRelMouse ∨ (∃ x y, Dispatches s (.setAbsMouse x y)) ∨
      (∃ x y, Dispatches s (.setKeycodeMouse x y)) ∨ Dispatches s .disableMouse ∨ Dispatches s .setJoyAuto ∨
      (Dispatches s .disableJoy ∧ s.booting = true ∧ s.mdis = true) := by
  cases h with
  | command hd effect =>
    cases effect with
    | setRelMouse _ | setRelMouseBooting _ => exact .inl hd
    | setAbsMouse x y => exact .inr (.inl ⟨x, y, hd⟩)
    | setKeycodeMouse kx ky => exact .inr (.inr (.inl ⟨kx, ky, hd⟩))
    | disableMouse _ | disableMouseBooting _ _ | disableMouseQuirk _ _ => exact .inr (.inr (.inr (.inl hd)))
    | setJoyAuto => exact .inr (.inr (.inr (.inr (.inl hd))))
    | disableJoyQuirk booting other => exact .inr (.inr (.inr (.inr (.inr ⟨hd, booting, other⟩))))
    | _ => exact absurd rfl hne
  | _ => exact absurd rfl hne

theorem StepEffect.position_writer (h : StepEffect s t) (hne : t.absX ≠ s.absX ∨ t.absY ≠ s.absY) :
    (∃ x y, Dispatches s (.setAbsMouse x y)) ∨ (∃ f x y, Dispatches s (.loadMousePos f x y)) ∨ TakesTick s := by
  cases h with
  | tick htick _ => exact .inr (.inr htick)
  | command hd effect =>
    cases effect with
    | setAbsMouse x y => exact .inl ⟨x, y, hd⟩
    | loadMousePos f x y => exact .inr (.inl ⟨f, x, y, hd⟩)
    | _ => exact hne.elim (absurd rfl) (absurd rfl)
  | _ => exact hne.elim (absurd rfl) (absurd rfl)

theorem StepEffect.maxima_writer (h : StepEffect s t) (hne : t.maxX ≠ s.maxX ∨ t.maxY ≠ s.maxY) :
    ∃ x y, Dispatches s (.setAbsMouse x y) := by
  cases h with
  | command hd effect =>
    cases effect with
    | setAbsMouse x y => exact ⟨x, y, hd⟩
    | _ => exact hne.elim (absurd rfl) (absurd rfl)
  | _ => exact hne.elim (absurd rfl) (absurd rfl)

theorem StepEffect.accumulators_writer (h : StepEffect s t) (hne : t.accX ≠ s.accX ∨ t.accY ≠ s.accY) :
    (∃ x y, Takes s (.mouseMotion x y)) ∨ TakesTick s := by
  cases h with
  | motion hm _ _ _ => exact .inl ⟨_, _, hm⟩
  | tick htick _ => exact .inr htick
  | command _ effect =>
    rw [effect.rest] at hne
    exact hne.elim (absurd rfl) (absurd rfl)
  | _ => exact hne.elim (absurd rfl) (absurd rfl)

theorem StepEffect.residual_writer (h : StepEffect s t) (hne : t.deltaX ≠ s.deltaX ∨ t.deltaY ≠ s.deltaY) :
    TakesTick s := by
  cases h with
  | tick htick _ => exact htick
  | command _ effect =>
    rw [effect.rest] at hne
    exact hne.elim (absurd rfl) (absurd rfl)
  | _ => exact hne.elim (absurd rfl) (absurd rfl)

theorem StepEffect.scales_writer (h : StepEffect s t) (hne : t.scaleX ≠ s.scaleX ∨ t.scaleY ≠ s.scaleY) :
    ∃ x y, Dispatches s (.setScale x y) := by
  cases h with
  | command hd effect =>
    cases effect with
    | setScale sx sy => exact ⟨sx, sy, hd⟩
    | _ => exact hne.elim (absurd rfl) (absurd rfl)
  | _ => exact hne.elim (absurd rfl) (absurd rfl)

theorem StepEffect.thresholds_writer (h : StepEffect s t) (hne : t.thrX ≠ s.thrX ∨ t.thrY ≠ s.thrY) :
    ∃ x y, Dispatches s (.setThreshold x y) := by
  cases h with
  | command hd effect =>
    cases effect with
    | setThreshold tx ty => exact ⟨tx, ty, hd⟩
    | _ => exact hne.elim (absurd rfl) (absurd rfl)
  | _ => exact hne.elim (absurd rfl) (absurd rfl)

theorem StepEffect.keySteps_writer (h : StepEffect s t) (hne : t.kcX ≠ s.kcX ∨ t.kcY ≠ s.kcY) :
    ∃ x y, Dispatches s (.setKeycodeMouse x y) := by
  cases h with
  | command hd effect =>
    cases effect with
    | setKeycodeMouse kx ky => exact ⟨kx, ky, hd⟩
    | _ => exact hne.elim (absurd rfl) (absurd rfl)
  | _ => exact hne.elim (absurd rfl) (absurd rfl)

theorem StepEffect.ysign_writer (h : StepEffect s t) (hne : t.ysign ≠ s.ysign) :
    Dispatches s .setYsignPos ∨ Dispatches s .setYsignNeg := by
  cases h with
  | command hd effect =>
    cases effect with
    | setYsignPos => exact .inl hd
    | setYsignNeg => exact .inr hd
    | _ => exact absurd rfl hne
  | _ => exact absurd rfl hne

theorem StepEffect.btnL_writer (h : StepEffect s t) (hne : t.btnL ≠ s.btnL) :
    ∃ l r, Takes s (.mouseButtons l r) := by
  cases h with
  | buttons hb _ _ _ => exact ⟨_, _, hb⟩
  | command _ effect => exact absurd (by rw [effect.rest]) hne
  | _ => exact absurd rfl hne

theorem StepEffect.btnR_writer (h : StepEffect s t) (hne : t.btnR ≠ s.btnR) :
    (∃ l r, Takes s (.mouseButtons l r)) ∨ TakesTick s := by
  cases h with
  | buttons hb _ _ _ => exact .inl ⟨_, _, hb⟩
  | tick htick _ => exact .inr htick
  | command _ effect => exact absurd (by rw [effect.rest]) hne
  | _ => exact absurd rfl hne

theorem StepEffect.edgeHistory_writer (h : StepEffect s t)
    (hne : t.btnLPrev ≠ s.btnLPrev ∨ t.btnRPrev ≠ s.btnRPrev) : TakesTick s := by
  cases h with
  | tick htick _ => exact htick
  | command _ effect =>
    rw [effect.rest] at hne
    exact hne.elim (absurd rfl) (absurd rfl)
  | _ => exact hne.elim (absurd rfl) (absurd rfl)

theorem StepEffect.absPrevMask_writer (h : StepEffect s t) (hne : t.absPrevMask ≠ s.absPrevMask) :
    Dispatches s .interrogateMouse ∨ TakesTick s := by
  cases h with
  | tick htick _ => exact .inr htick
  | command hd effect =>
    cases effect with
    | interrogateMouse => exact .inl hd
    | _ => exact absurd rfl hne
  | _ => exact absurd rfl hne

/-- Settles O54, register by register. -/
theorem mouseRegistersChangeOnlyByTheirWriters : Obligations.MouseRegistersChangeOnlyByTheirWriters := by
  intro s t hstep hr
  have h := step_effect_of_not_resets hstep hr
  exact ⟨h.action_writer, h.mmode_writer, h.position_writer, h.maxima_writer, h.accumulators_writer, h.residual_writer,
    h.scales_writer, h.thresholds_writer, h.keySteps_writer, h.ysign_writer, h.btnL_writer, h.btnR_writer,
    h.edgeHistory_writer, h.absPrevMask_writer⟩

/-! ### Joystick registers, keys, flags, the parser, CLOCK and the configuration (R23, R24, R38 to R49) -/

theorem StepEffect.jmode_writer (h : StepEffect s t) (hne : t.jmode ≠ s.jmode) :
    Dispatches s .setJoyAuto ∨ Dispatches s .setJoyOff ∨ (∃ r, Dispatches s (.setJoyMonitor r)) ∨
      Dispatches s .disableJoy ∨ (Dispatches s .disableMouse ∧ s.booting = true ∧ s.jdis = true) := by
  cases h with
  | command hd effect =>
    cases effect with
    | setJoyAuto => exact .inl hd
    | setJoyOff => exact .inr (.inl hd)
    | setJoyMonitor r => exact .inr (.inr (.inl ⟨r, hd⟩))
    | disableJoy _ | disableJoyBooting _ _ | disableJoyQuirk _ _ => exact .inr (.inr (.inr (.inl hd)))
    | disableMouseQuirk booting other => exact .inr (.inr (.inr (.inr ⟨hd, booting, other⟩)))
    | _ => exact absurd rfl hne
  | _ => exact absurd rfl hne

theorem StepEffect.sticks_writer (h : StepEffect s t)
    (hne : t.jcur0 ≠ s.jcur0 ∨ t.jcur1 ≠ s.jcur1 ∨ t.jprev0 ≠ s.jprev0 ∨ t.jprev1 ≠ s.jprev1) : TakesTick s := by
  cases h with
  | tick htick _ => exact htick
  | command _ effect =>
    rw [effect.rest] at hne
    simp at hne
  | _ => simp at hne

theorem StepEffect.jrate_writer (h : StepEffect s t) (hne : t.jrate ≠ s.jrate) :
    ∃ r, Dispatches s (.setJoyMonitor r) := by
  cases h with
  | command hd effect =>
    cases effect with
    | setJoyMonitor r => exact ⟨r, hd⟩
    | _ => exact absurd rfl hne
  | _ => exact absurd rfl hne

theorem StepEffect.keyState_writer (h : StepEffect s t) (hne : t.keyState ≠ s.keyState) :
    ∃ k p, Takes s (.keyTransition k p) := by
  cases h with
  | key hk _ _ _ => exact ⟨_, _, hk⟩
  | command _ effect => exact absurd (by rw [effect.rest]) hne
  | _ => exact absurd rfl hne

theorem StepEffect.pause_writer (h : StepEffect s t) (hne : t.pause ≠ s.pause) : ∃ i, Dispatches s i := by
  cases h with
  | command hd _ => exact ⟨_, hd⟩
  | _ => exact absurd rfl hne

theorem StepEffect.parser_writer (h : StepEffect s t) (hne : t.cmdBuf ≠ s.cmdBuf ∨ t.cmdLen ≠ s.cmdLen) :
    ∃ b, Takes s (.hostByte b) := by
  cases h with
  | byteTaken hb _ _ _ => exact ⟨_, hb⟩
  | command hd _ =>
    obtain ⟨b, -, hb, -⟩ := hd
    exact ⟨b, hb⟩
  | _ => exact hne.elim (absurd rfl) (absurd rfl)

theorem StepEffect.boot_writer (h : StepEffect s t) (hne : t.booting ≠ s.booting ∨ t.timerArmed ≠ s.timerArmed) :
    Takes s .bootTimerExpire ∧ s.timerArmed = true ∧ t.booting = false ∧ t.timerArmed = false := by
  cases h with
  | bootTimer hb armed _ _ => exact ⟨hb, armed, rfl, rfl⟩
  | command _ effect =>
    rw [effect.rest] at hne
    exact hne.elim (absurd rfl) (absurd rfl)
  | _ => exact hne.elim (absurd rfl) (absurd rfl)

theorem StepEffect.mdis_writer (h : StepEffect s t) (hne : t.mdis ≠ s.mdis) :
    Dispatches s .disableMouse ∧ s.booting = true ∧ t.mdis = true := by
  cases h with
  | command hd effect =>
    cases effect with
    | disableMouseBooting booting _ | disableMouseQuirk booting _ => exact ⟨hd, booting, rfl⟩
    | _ => exact absurd rfl hne
  | _ => exact absurd rfl hne

theorem StepEffect.jdis_writer (h : StepEffect s t) (hne : t.jdis ≠ s.jdis) :
    Dispatches s .disableJoy ∧ s.booting = true ∧ t.jdis = true := by
  cases h with
  | command hd effect =>
    cases effect with
    | disableJoyBooting booting _ | disableJoyQuirk booting _ => exact ⟨hd, booting, rfl⟩
    | _ => exact absurd rfl hne
  | _ => exact absurd rfl hne

theorem StepEffect.both_writer (h : StepEffect s t) (hne : t.both ≠ s.both) :
    (Dispatches s .disableMouse ∨ Dispatches s .disableJoy) ∧ s.booting = true ∧ t.both = true := by
  cases h with
  | command hd effect =>
    cases effect with
    | disableMouseQuirk booting _ => exact ⟨.inl hd, booting, rfl⟩
    | disableJoyQuirk booting _ => exact ⟨.inr hd, booting, rfl⟩
    | _ => exact absurd rfl hne
  | _ => exact absurd rfl hne

theorem StepEffect.medr_writer (h : StepEffect s t) (hne : t.medr ≠ s.medr) :
    (Dispatches s .setRelMouse ∧ s.booting = true ∧ t.medr = true) ∨
      (Takes s .bootTimerExpire ∧ t.medr = false) := by
  cases h with
  | bootTimer hb _ _ _ => exact .inr ⟨hb, rfl⟩
  | command hd effect =>
    cases effect with
    | setRelMouseBooting booting => exact .inl ⟨hd, booting, rfl⟩
    | _ => exact absurd rfl hne
  | _ => exact absurd rfl hne

/-- No step writes the configuration (log 5). -/
theorem step_cfg (h : step s = .next t) : t.cfg = s.cfg := by
  rcases step_effect h with hreset | heffect
  · cases hreset <;> rfl
  · cases heffect with
    | command _ effect => rw [effect.rest]
    | _ => rfl

/-- CLOCK outlives everything but a cold reset (R49). -/
theorem clock_writer (h : step s = .next t) (hne : t.clock ≠ s.clock) : Takes s .coldReset := by
  rcases step_effect h with hreset | heffect
  · cases hreset with
    | cold hc => exact hc
    | warm _ => exact absurd rfl hne
  · cases heffect with
    | command _ effect => exact absurd (by rw [effect.rest]) hne
    | _ => exact absurd rfl hne

/-- Settles O55, register by register. -/
theorem otherRegistersChangeOnlyByTheirWriters : Obligations.OtherRegistersChangeOnlyByTheirWriters := by
  intro s t hstep
  refine ⟨step_cfg hstep, clock_writer hstep, fun hr => ?_⟩
  have h := step_effect_of_not_resets hstep hr
  exact ⟨h.jmode_writer, h.sticks_writer, h.jrate_writer, h.keyState_writer, h.pause_writer, h.parser_writer,
    h.boot_writer, h.mdis_writer, h.jdis_writer, h.both_writer, h.medr_writer⟩

end

end Sys2Proof.Machine
end

section
/-! The output channel and the byte order (20_memory.md): O37, O7 and O38. -/

namespace Sys2Proof

/-! ### Byte order (R85) -/

/-- Big-endian: the first byte counts 256, the second 1. -/
theorem be16_toNat (hi lo : Byte) : (be16 hi lo).toNat = hi.toNat * 256 + lo.toNat := by
  have hor := Nat.shiftLeft_add_eq_or_of_lt lo.isLt hi.toNat
  rw [be16, BitVec.toNat_append, ← hor, Nat.shiftLeft_eq]

theorem toNat_eq_bytes (v : Word16) : v.toNat = (hiByte v).toNat * 256 + (loByte v).toNat := by
  rw [← be16_toNat, be16_hiByte_loByte]

end Sys2Proof

namespace Sys2Proof.Machine

section
variable {s : State}

/-! ### OutPop (R76) -/

theorem onOutPop_of_pos (h : 0 < s.out.count) : onOutPop s =
    { s with out := s.out.pop s.cfg.outCap, outputs := s.outputs ++ [.byte s.out.front] } := if_pos h

theorem onOutPop_of_empty (h : s.out.count = 0) : onOutPop s = s := if_neg (Nat.not_lt.mpr (Nat.le_zero.mpr h))

/-- Settles O37: by `OutFifo.pop_contents`, the byte at OUT_HEAD is the oldest unread one and a pop leaves the others. -/
theorem outPopTakesOldestByte : Obligations.OutPopTakesOldestByte := by
  refine ⟨fun s hfifo hpos => ?_, fun s hempty => congrArg Host.Outcome.next (onOutPop_of_empty hempty)⟩
  have hunread : s.unread = s.out.front :: (s.out.pop s.cfg.outCap).contents s.cfg.outCap :=
    OutFifo.pop_contents hfifo hpos
  have hcount : (s.out.pop s.cfg.outCap).count + 1 = s.out.count := Nat.sub_add_cancel hpos
  exact ⟨_, _, congrArg Host.Outcome.next (onOutPop_of_pos hpos), hunread, rfl, rfl, rfl, rfl, hcount⟩

/-! ### Byte order in commands and packets (R85, R203) -/

theorem mouseModeFrame_absolute (h : s.mmode = .absolute) : mouseModeFrame s =
    [0xF6, 0x09, hiByte s.maxX, loByte s.maxX, hiByte s.maxY, loByte s.maxY, 0, 0] := by
  simp only [mouseModeFrame, h, frame]

/-- Settles O7: the decoder joins bytes by `be16` and the layouts split words by `hiByte` and `loByte`; the arithmetic of
both is `be16_toNat`. -/
theorem wideFieldsAreBigEndian : Obligations.WideFieldsAreBigEndian := by
  refine ⟨fun a b c d => ?setAbsMouse, fun f a b c d => ?loadMousePos, fun m x y => ?absPacket,
    fun s habs => ?mouseModeFrame, ?example320, ?example200⟩
  case setAbsMouse => exact ⟨be16 a b, be16 c d, rfl, be16_toNat a b, be16_toNat c d⟩
  case loadMousePos => exact ⟨be16 a b, be16 c d, rfl, be16_toNat a b, be16_toNat c d⟩
  case absPacket => exact ⟨_, _, _, _, _, _, rfl, toNat_eq_bytes x, toNat_eq_bytes y⟩
  case mouseModeFrame =>
    exact ⟨_, _, _, _, mouseModeFrame_absolute habs, toNat_eq_bytes s.maxX, toNat_eq_bytes s.maxY⟩
  case example320 => decide
  case example200 => decide

/-! ### No step fails, and a packet without room is dropped (R73, R78) -/

/-- Every command's meaning is the dispatch of some handler (R125, log 13). -/
theorem exec_eq_dispatch (i : Instr) : ∃ handler, ∀ s, exec i s = dispatch handler s := by
  unfold exec
  cases i <;> exact ⟨_, fun s => Eq.refl (dispatch _ s)⟩

theorem exec_completes (i : Instr) (s : State) : Completes (exec i s) := by
  obtain ⟨handler, h⟩ := exec_eq_dispatch i
  exact ⟨_, h s⟩

/-- However a byte's intake ends (R121), it ends in a next state. -/
theorem onHostByte_completes (b : Byte) (s : State) : Completes (onHostByte b s) := by
  by_cases hroom : s.cmdLen.val < 8
  · rcases onHostByte_cases (b := b) hroom with ⟨-, h⟩ | ⟨-, -, -, h⟩ | ⟨-, i, -, -, -, -, h⟩
    · exact ⟨_, h⟩
    · exact ⟨_, h⟩
    · exact h ▸ exec_completes i _
  · exact ⟨_, onHostByte_full hroom⟩

theorem takeEvent_completes (e : Event) (s : State) : Completes (takeEvent e s) := by
  cases e with
  | hostByte b => exact onHostByte_completes b s
  | _ => exact ⟨_, rfl⟩

theorem step_completes (hc : s.cfg.wf = true) : Completes (step s) := by
  cases hi : s.inputs with
  | nil => exact ⟨s, step_idle hc hi⟩
  | cons e rest => exact step_eq hc hi ▸ takeEvent_completes e _

/-- R73's drop, whatever the form of the FIFO. -/
theorem enqueue_of_not_room {p : List Byte} (hp : 0 < p.length) (hr : ¬ Room s p.length) : enqueue p s = s := by
  have hadmits : ¬ admits s p.length = true := fun ha => hr ((admits_iff_room s hp).mp ha)
  simp only [enqueue, if_neg hadmits]

theorem not_room_of_full {n : Nat} (hn : 0 < n) (hfull : s.out.count = s.cfg.outCap) : ¬ Room s n := by
  rintro ⟨-, -, hfits⟩
  omega

/-- Settles O38: every event completes, and a full FIFO has no room for a byte. -/
theorem noStepFailsForLackOfSpace : Obligations.NoStepFailsForLackOfSpace :=
  ⟨fun _ => step_completes, fun _ _ hp hfull => enqueue_of_not_room hp (not_room_of_full hp hfull)⟩

end

end Sys2Proof.Machine
end

section
/-! The command encoding (30_encoding.md): O4, O5, O6 and O8; and the unknown byte's step (O14). -/

namespace Sys2Proof

/-! ### What `lookup` and `decode` answer -/

/-- Only a table entry of that very byte answers for a byte (R123). -/
theorem mem_of_lookup {c : Byte} {e : CommandRow} (h : lookup c = some e) : e ∈ commandTable ∧ e.byte = c :=
  ⟨List.mem_of_find?_eq_some h, by simpa using List.find?_some h⟩

theorem commandLength_eq_none_iff_lookup {c : Byte} : commandLength c = none ↔ lookup c = none :=
  Option.map_eq_none_iff

theorem commandLength_eq_none_iff {c : Byte} : commandLength c = none ↔ ∀ e ∈ commandTable, e.byte ≠ c := by
  simp only [commandLength_eq_none_iff_lookup, lookup, List.find?_eq_none, beq_iff_eq, ne_eq]

/-- Everything a decoded command can be: the first byte's row, complete, assembled from the bytes at their offsets
(R98, R123). -/
theorem decode_eq_command_iff {bytes rest : List Byte} {i : Instr} : decode bytes = .command i rest ↔
    ∃ e, bytes.head?.bind lookup = some e ∧ e.len ≤ bytes.length ∧ e.build (fun n => bytes.getD n 0) = i ∧
      bytes.drop e.len = rest := by
  rcases bytes with _ | ⟨c, ps⟩
  · simp [decode]
  · cases hrow : lookup c with
    | none => simp [decode, hrow]
    | some e =>
      by_cases hshort : (c :: ps).length < e.len
      · simp only [decode, hrow, if_pos hshort, List.head?_cons, Option.bind_some, Option.some.injEq, reduceCtorEq,
          false_iff]
        rintro ⟨_, rfl, hlen, -⟩
        exact Nat.not_le_of_lt hshort hlen
      · simp only [decode, hrow, if_neg hshort, List.head?_cons, Option.bind_some, Option.some.injEq,
          Decoded.command.injEq, exists_eq_left', Nat.le_of_not_lt hshort, true_and]

theorem decode_of_unknown {c : Byte} (h : commandLength c = none) (ps : List Byte) : decode (c :: ps) = .unknown c := by
  simp only [decode, commandLength_eq_none_iff_lookup.mp h]

/-! ### Each row of the table agrees with the encoder (R97, R98, R108) -/

/-- The row of a command assembles it from the bytes of its encoding, whatever follows them. -/
theorem encode_row (i : Instr) : ∃ e, e.len = (encode i).length ∧ ∀ rest : List Byte,
    (encode i ++ rest).head?.bind lookup = some e ∧ e.build (fun n => (encode i ++ rest).getD n 0) = i := by
  cases i with
  | setAbsMouse x y =>
    exact ⟨_, rfl, fun _ => ⟨rfl, congrArg₂ Instr.setAbsMouse (be16_hiByte_loByte x) (be16_hiByte_loByte y)⟩⟩
  | loadMousePos filler x y =>
    exact ⟨_, rfl, fun _ => ⟨rfl,
      congrArg₂ (Instr.loadMousePos filler) (be16_hiByte_loByte x) (be16_hiByte_loByte y)⟩⟩
  | _ => exact ⟨_, rfl, fun _ => ⟨rfl, rfl⟩⟩

/-- Settles O4: `decode` finds the row of `encode_row`, whose length is that of the encoding. -/
theorem decodeUndoesEncode : Obligations.DecodeUndoesEncode := by
  intro i rest _
  obtain ⟨e, hlen, hrow⟩ := encode_row i
  obtain ⟨hlookup, hbuild⟩ := hrow rest
  exact decode_eq_command_iff.mpr ⟨e, hlookup, by simp [hlen], hbuild, by rw [hlen, List.drop_left]⟩

/-- A row assembles its command from all its bytes: `build` drops none, the ignored ones included (R99). -/
theorem encode_build {e : CommandRow} (he : e ∈ commandTable) {p : Nat → Byte} (hp : p 0 = e.byte) :
    encode (e.build p) = (List.range e.len).map p := by
  fin_cases he
  all_goals simp only [encode, hiByte_be16, loByte_be16]
  all_goals exact congrArg₂ List.cons hp.symm rfl

theorem map_getD_range {l : List Byte} {n : Nat} (h : n ≤ l.length) :
    (List.range n).map (fun k => l.getD k 0) = l.take n := by
  refine List.ext_getElem (by simpa using h) fun k hk _ => ?_
  have hin : k < l.length := by
    rw [List.length_map, List.length_range] at hk
    omega
  simp [hin]

/-- Settles O5: the row `decode` took the command from encodes it, by `encode_build`, to the bytes taken. -/
theorem encodeUndoesDecode : Obligations.EncodeUndoesDecode := by
  intro bytes rest i h
  obtain ⟨e, hlookup, hlen, rfl, rfl⟩ := decode_eq_command_iff.mp h
  obtain ⟨c, hhead, hc⟩ := Option.bind_eq_some_iff.mp hlookup
  obtain ⟨hmem, hbyte⟩ := mem_of_lookup hc
  have hfirst : bytes.getD 0 0 = e.byte := by
    rw [List.getD_eq_getElem?_getD, ← List.head?_eq_getElem?, hhead, Option.getD_some, hbyte]
  rw [encode_build hmem hfirst, map_getD_range hlen, List.take_append_drop]

/-- Settles O6: the seven complete words are encodings, so O4 decodes them; two bytes are fewer than the row's five; and
8D is in no row. The report bytes rest on R109 (GK2, log 18). -/
theorem specExampleWordsDecode : Obligations.SpecExampleWordsDecode :=
  ⟨decodeUndoesEncode (.setAbsMouse 0x0140 0x00C8) [] rfl,
    decodeUndoesEncode (.loadMousePos 0x00 0x0050 0x0064) [] rfl,
    decodeUndoesEncode (.reset 0x01) [] rfl, decodeUndoesEncode (.setJoyMonitor 0x00) [] rfl,
    decodeUndoesEncode (.nop19 0x08 0x12 0x13 0x14 0x15 0x1A) [] rfl,
    decodeUndoesEncode (.setThreshold 0x12 0x13) [] rfl,
    decodeUndoesEncode .reportThreshold [] rfl, rfl, decode_of_unknown rfl []⟩

/-- Settles O8: R110's ranges are the gaps between the 34 command bytes of the table. Its gaps in
87..9A rest on R109 (GK2, log 18). -/
theorem unknownBytesAreThoseListed : Obligations.UnknownBytesAreThoseListed := by
  intro b
  rw [commandLength_eq_none_iff]
  simp only [commandTable, List.forall_mem_cons, List.not_mem_nil, false_implies, implies_true, and_true]
  bv_omega

end Sys2Proof

namespace Sys2Proof.Machine

/-- At an empty buffer the arriving byte is the whole of it, and an unknown one is dropped again (R121, R126). -/
theorem onHostByte_unknown {b : Byte} {s : State} (hempty : s.cmdLen = 0) (hb : commandLength b = none) :
    onHostByte b s = .next { s with cmdBuf := s.cmdBuf.set 0 b } := by
  have hroom : s.cmdLen.val < 8 := by simp [hempty]
  have hbytes : (appendHostByte b s).cmdBytes = [b] := by
    rw [appendHostByte_cmdBytes hroom]
    simp [State.cmdBytes, hempty]
  rw [onHostByte_eq hroom, hbytes, decode_of_unknown hb, appendHostByte_eq hroom]
  simp only [hempty, Fin.val_zero]

/-- Settles O14: the step takes the byte, and the byte is unknown. -/
theorem unknownByteIsDiscarded : Obligations.UnknownByteIsDiscarded :=
  fun _ _ _ hc hi hempty hb => (step_eq hc hi).trans (onHostByte_unknown hempty hb)

end Sys2Proof.Machine
end

section
/-! The command interpreter (40_command_interpreter.md): the table's order (O9), a byte that completes a command (O11),
one that does not (O13), a command sent byte by byte (O12), and what every dispatch clears (O15). -/

namespace Sys2Proof

/-! ### Lookup (R123, R129) -/

/-- No byte has two entries, so at most one entry matches (R129). -/
theorem subsingleton_rows_of_byte (c : Byte) : {e ∈ commandTable | (e.byte == c) = true}.Subsingleton := by
  have hnodup : (commandTable.map (·.byte)).Nodup := by decide
  rintro e ⟨he, hec⟩ d ⟨hd, hdc⟩
  rw [beq_iff_eq] at hec hdc
  exact List.inj_on_of_nodup_map hnodup he hd (hec.trans hdc.symm)

theorem decode_eq_unknown_iff {c : Byte} {ps : List Byte} : decode (c :: ps) = .unknown c ↔ lookup c = none := by
  cases hrow : lookup c with
  | none => simp [decode, hrow]
  | some e =>
    simp only [decode, hrow, reduceCtorEq, iff_false]
    split <;> exact Decoded.noConfusion

/-- Settles O9: the search is core's `find?`; a permutation keeps its answer because at most one entry matches. -/
theorem lookupIgnoresTableOrder : Obligations.LookupIgnoresTableOrder := by
  refine ⟨fun c => ?firstMatch, fun table hperm c => ?anyOrder, fun c bytes => decode_eq_unknown_iff⟩
  case firstMatch =>
    cases hrow : lookup c with
    | none => exact .inl ⟨rfl, commandLength_eq_none_iff.mp (commandLength_eq_none_iff_lookup.mpr hrow)⟩
    | some e =>
      obtain ⟨hbyte, before, after, htable, hbefore⟩ := List.find?_eq_some_iff_append.mp hrow
      exact .inr ⟨before, e, after, htable, by simpa using hbyte, by simpa using hbefore, rfl⟩
  case anyOrder => exact (List.find?_eq_find?_of_perm hperm.symm (subsingleton_rows_of_byte c)).symm

/-! ### A command of which bytes are missing (R124) -/

theorem decode_of_short {c : Byte} {ps : List Byte} {e : CommandRow} (hrow : lookup c = some e)
    (hshort : (c :: ps).length < e.len) : decode (c :: ps) = .wait e.len := by
  simp only [decode, hrow, if_pos hshort]

theorem encode_ne_nil (i : Instr) : encode i ≠ [] := by
  cases i <;> exact List.cons_ne_nil _ _

/-- Every command is well formed (R112), so O4 holds of it without its hypothesis. -/
theorem decode_encode (i : Instr) : decode (encode i) = .command i [] := by
  have hwf : i.wf = true := by cases i <;> rfl
  simpa using decodeUndoesEncode i [] hwf

/-- A command cut short is no command: its first byte already says that more bytes are to come (R100, R127). -/
theorem decode_of_encode_start {ps qs : List Byte} {i : Instr} (h : ps ++ qs = encode i) (hps : ps ≠ [])
    (hqs : qs ≠ []) : decode ps = .wait (encode i).length := by
  obtain ⟨e, hlen, hrow⟩ := encode_row i
  obtain ⟨hlookup, -⟩ := hrow []
  obtain ⟨c, ps, rfl⟩ := List.exists_cons_of_ne_nil hps
  have hshort : (c :: ps).length < e.len := by
    have := List.length_pos_of_ne_nil hqs
    rw [hlen, ← h, List.length_append]
    omega
  rw [← hlen]
  refine decode_of_short ?_ hshort
  rwa [List.append_nil, ← h, List.cons_append, List.head?_cons, Option.bind_some] at hlookup

theorem encode_length_le (i : Instr) : (encode i).length ≤ longestCommand := by
  obtain ⟨e, hlen, hrow⟩ := encode_row i
  obtain ⟨c, -, hlookup⟩ := Option.bind_eq_some_iff.mp (hrow []).1
  exact hlen ▸ Machine.lookup_len_le hlookup

end Sys2Proof

namespace Sys2Proof.Machine

section
variable {s t : State} {b : Byte} {i : Instr} {rest : List Event}

/-! ### One byte (R121) -/

theorem cmdBytes_length (s : State) : s.cmdBytes.length = s.cmdLen.val := by
  have := s.cmdLen.isLt
  simp only [State.cmdBytes, List.length_take, Vector.length_toList]
  omega

/-- The command buffer is its valid bytes and then the slots above CMDLEN (R23). -/
theorem cmdBytes_append_drop (s : State) : s.cmdBytes ++ s.cmdBuf.toList.drop s.cmdBytes.length = s.cmdBuf.toList := by
  rw [cmdBytes_length]
  exact List.take_append_drop _ _

/-- The state in which a host byte's step looks at the command buffer: its event taken, the byte appended (R122). -/
def State.received (s : State) (b : Byte) (rest : List Event) : State := appendHostByte b { s with inputs := rest }

theorem received_eq (hroom : s.cmdLen.val < 8) : s.received b rest =
    { s with inputs := rest, cmdBuf := s.cmdBuf.set s.cmdLen.val b hroom,
             cmdLen := ⟨s.cmdLen.val + 1, Nat.succ_lt_succ hroom⟩ } :=
  appendHostByte_eq (s := { s with inputs := rest }) hroom

theorem received_cmdBytes (hroom : s.cmdLen.val < 8) : (s.received b rest).cmdBytes = s.cmdBytes ++ [b] :=
  appendHostByte_cmdBytes (s := { s with inputs := rest }) hroom

/-- A byte goes to the slot at CMDLEN, and to none above (R122). -/
theorem received_drop {n : Nat} (hn : s.cmdLen.val < n) (hroom : s.cmdLen.val < 8) :
    (s.received b rest).cmdBuf.toList.drop n = s.cmdBuf.toList.drop n := by
  rw [received_eq hroom, Vector.toList_set, List.drop_set_of_lt hn]

/-- The step of a byte that completes a command (R125). -/
theorem step_of_command {more : List Byte} (hc : s.cfg.wf = true) (hi : s.inputs = .hostByte b :: rest)
    (hroom : s.cmdLen.val < 8) (hd : decode (s.received b rest).cmdBytes = .command i more) :
    step s = exec i (s.received b rest) := by
  rw [State.received] at hd ⊢
  rw [step_eq hc hi, takeEvent, onHostByte_eq (s := { s with inputs := rest }) hroom, hd]

/-- The step of a byte after which more are missing (R124). -/
theorem step_of_wait {n : Nat} (hc : s.cfg.wf = true) (hi : s.inputs = .hostByte b :: rest) (hroom : s.cmdLen.val < 8)
    (hd : decode (s.received b rest).cmdBytes = .wait n) : step s = .next (s.received b rest) := by
  rw [State.received] at hd ⊢
  rw [step_eq hc hi, takeEvent, onHostByte_eq (s := { s with inputs := rest }) hroom, hd]

end

/-- Settles O11: the byte completes the command in the state that `received_eq` spells out. -/
theorem stepRunsDecodedCommand : Obligations.StepRunsDecodedCommand := by
  intro s b rest i more hroom hc hi _ hd
  rw [← received_eq hroom]
  exact step_of_command hc hi hroom (by rw [received_eq hroom]; exact hd)

/-- Settles O13: the bytes received start with the row's command byte, and they are fewer than the row asks for. -/
theorem incompleteCommandWaits : Obligations.IncompleteCommandWaits := by
  intro s b rest n hroom hc hi hn hshort
  obtain ⟨e, hrow, rfl⟩ := Option.map_eq_some_iff.mp hn
  rw [← received_eq hroom]
  refine step_of_wait (n := e.len) hc hi hroom ?_
  have hlen : (s.received b rest).cmdBytes.length = s.cmdLen.val + 1 := by
    rw [cmdBytes_length, received_eq hroom]
  obtain ⟨ps, hfirst⟩ : ∃ ps, (s.received b rest).cmdBytes = (s.cmdBuf.set s.cmdLen.val b hroom)[0] :: ps := by
    rw [State.cmdBytes, received_eq hroom]
    exact ⟨_, take_eq_cons _ _⟩
  rw [hfirst] at hlen ⊢
  exact decode_of_short hrow (hlen ▸ hshort)

/-! ### A command sent byte by byte (R122, R127) -/

section
variable {s t : State} {b : Byte} {i : Instr} {rest : List Event}

/-- `t` is `s` with the bytes of command `i` in the command buffer, the slots above them as in `s`, and `rest` still
scheduled. -/
structure CommandReceived (s : State) (i : Instr) (rest : List Event) (t : State) : Prop where
  frame : t = { s with inputs := rest, cmdBuf := t.cmdBuf, cmdLen := t.cmdLen }
  bytes : t.cmdBytes = encode i
  above : t.cmdBuf.toList.drop (encode i).length = s.cmdBuf.toList.drop (encode i).length

theorem CommandReceived.cmdLen (h : CommandReceived s i rest t) : t.cmdLen.val = (encode i).length := by
  rw [← cmdBytes_length, h.bytes]

theorem CommandReceived.cmdBuf (h : CommandReceived s i rest t) :
    t.cmdBuf.toList = encode i ++ s.cmdBuf.toList.drop (encode i).length := by
  rw [← cmdBytes_append_drop t, h.bytes, h.above]

/-- The last byte of a command makes it received. -/
theorem commandReceived_of_last (hroom : s.cmdLen.val < 8) (hlt : s.cmdLen.val < (encode i).length)
    (h : (s.received b rest).cmdBytes = encode i) : CommandReceived s i rest (s.received b rest) where
  frame := by rw [received_eq hroom]
  bytes := h
  above := received_drop hlt hroom

/-- An earlier byte of a command may be received first. -/
theorem CommandReceived.of_received {rest' : List Event} (hroom : s.cmdLen.val < 8)
    (hlt : s.cmdLen.val < (encode i).length) (h : CommandReceived (s.received b rest') i rest t) :
    CommandReceived s i rest t where
  frame := by
    refine h.frame.trans ?_
    rw [received_eq hroom]
  bytes := h.bytes
  above := h.above.trans (received_drop hlt hroom)

/-- A run of one step is the step. -/
theorem run_one (s : State) : Sys2Proof.core.run 1 s = step s := by
  refine (core_run_succ Sys2Proof.core 0 s).trans ?_
  have hstep : Sys2Proof.core.step s = step s := rfl
  rw [hstep]
  cases step s <;> rfl

/-- The bytes still missing arrive: all but the last are kept waiting, the last runs the command. -/
theorem run_missing_bytes {qs : List Byte} (hqs : qs ≠ []) (hc : s.cfg.wf = true)
    (hbytes : s.cmdBytes ++ qs = encode i) (hi : s.inputs = qs.map Event.hostByte ++ rest) :
    ∃ t, CommandReceived s i rest t ∧ Sys2Proof.core.run qs.length s = exec i t := by
  induction qs generalizing s with
  | nil => exact absurd rfl hqs
  | cons b qs ih =>
    have hlt : s.cmdLen.val < (encode i).length := by
      rw [← hbytes, List.length_append, cmdBytes_length, List.length_cons]
      omega
    have hroom : s.cmdLen.val < 8 := Nat.lt_of_lt_of_le hlt (Nat.le_succ_of_le (encode_length_le i))
    have hnow : (s.received b (qs.map Event.hostByte ++ rest)).cmdBytes ++ qs = encode i := by
      rw [received_cmdBytes hroom, List.append_assoc]
      exact hbytes
    rcases qs with _ | ⟨c, qs⟩
    · have hlast : (s.received b rest).cmdBytes = encode i := (List.append_nil _).symm.trans hnow
      have hd : decode (s.received b rest).cmdBytes = .command i [] := by
        rw [hlast, decode_encode]
      exact ⟨_, commandReceived_of_last hroom hlt hlast, (run_one s).trans (step_of_command hc hi hroom hd)⟩
    · have hne := List.cons_ne_nil c qs
      have hd := decode_of_encode_start hnow (by rw [received_cmdBytes hroom]; exact List.concat_ne_nil _ _) hne
      obtain ⟨t, ht, hrun⟩ := ih hne (by rw [received_eq hroom]; exact hc) hnow (by rw [received_eq hroom])
      exact ⟨t, ht.of_received hroom hlt, (run_next (step_of_wait hc hi hroom hd) _).trans hrun⟩

end

/-- Settles O12: with the buffer empty every byte of the command is missing. -/
theorem commandSentByteByByteRunsOnce : Obligations.CommandSentByteByByteRunsOnce := by
  intro s i rest hc hempty hi
  have hnone : s.cmdBytes = [] := by simp [State.cmdBytes, hempty]
  obtain ⟨t, ht, hrun⟩ := run_missing_bytes (encode_ne_nil i) hc (by rw [hnone, List.nil_append]) hi
  exact ⟨t.cmdBuf, t.cmdLen, ht.cmdBuf, ht.cmdLen, hrun.trans (congrArg (exec i) ht.frame)⟩

/-! ### What every dispatch clears (R125, R175) -/

section
variable {s t : State} {i : Instr}

/-- PAUSE sets its flag, which the dispatch has cleared, in Ready only (R175). -/
theorem exec_pause (s : State) : exec .pause s = .next { s.dispatched with pause := !s.booting } := by
  show execPause s = _
  cases hb : s.booting <;> simp [execPause, dispatch, State.dispatched, hb]

/-- No handler but 0x13's sets PAUSE again. -/
theorem CommandEffect.pause_eq_false (c : CommandEffect s i t) (hi : i ≠ .pause) : t.pause = false := by
  cases c with
  | pause => exact absurd rfl hi
  | _ => rfl

theorem exec_pause_iff (h : exec i s = .next t) : t.pause = true ↔ i = .pause ∧ s.booting = false := by
  by_cases hp : i = .pause
  · subst hp
    cases (exec_pause s).symm.trans h
    simp
  · have hclear : t.pause = false := by
      by_cases hr : i = .reset 0x01
      · subst hr
        cases h
        rfl
      · exact (exec_effect hr h).pause_eq_false hp
    simp [hclear, hp]

end

/-- Settles O15: a command's meaning is the dispatch of its handler, which clears PAUSE before and CMDLEN after. -/
theorem dispatchClearsPauseAndBuffer : Obligations.DispatchClearsPauseAndBuffer := by
  intro i s
  obtain ⟨handler, hexec⟩ := exec_eq_dispatch i
  exact ⟨(hexec s).trans (hexec { s with pause := false }).symm, _, hexec s, rfl, exec_pause_iff (hexec s)⟩

end Sys2Proof.Machine
end

section
/-! The mouse commands (41_mouse_commands.md): register settings (O16), the threshold's reach (O17), the Relative mode (O18),
the position and its clamp (O19), and the absolute packet (O20). -/

namespace Sys2Proof.Machine

/-! ### Settings (R142, R146, R148, R152, R153) -/

theorem exec_setMouseAction (a : Byte) (s : State) :
    exec (.setMouseAction a) s = .next { s.dispatched with action := a.extractLsb' 0 3 } := rfl

/-- Settles O16: only ACTION is narrower than its operand, and keeps the operand's bits 2:0. -/
theorem mouseSettingCommandsWriteTheirRegisters : Obligations.MouseSettingCommandsWriteTheirRegisters := by
  intro s a kx ky sx sy
  have hbits : ∀ k, k < 3 → (a.extractLsb' 0 3).getLsbD k = a.getLsbD k := fun k hk => by simp [hk]
  exact ⟨⟨_, exec_setMouseAction a s, rfl, hbits⟩, rfl, rfl, rfl, rfl⟩

/-! ### The threshold (R147, R240) -/

theorem exec_setThreshold (tx ty : Byte) (s : State) :
    exec (.setThreshold tx ty) s = .next { s.dispatched with thrX := tx, thrY := ty } := rfl

/-- The strict compare (R240, D6). -/
theorem exceeds_strict_iff {c t : Int} : exceeds true c t = true ↔ (c < 0 ∧ c < -t) ∨ (0 < c ∧ t < c) :=
  decide_eq_true_iff

theorem exceeds_strict_eq_false_iff {c t : Int} :
    exceeds true c t = false ↔ ¬ ((c < 0 ∧ c < -t) ∨ (0 < c ∧ t < c)) := by
  rw [← Bool.not_eq_true, exceeds_strict_iff]

/-- Settles O17: no count lies above 127 or below -128, so none passes a threshold of 127 upward or of 128 either way. -/
theorem setThresholdStoresAndItsReach : Obligations.SetThresholdStoresAndItsReach := by
  refine ⟨fun s tx ty => exec_setThreshold tx ty s,
    fun c t hlo hhi => ⟨fun ht hc => exceeds_strict_eq_false_iff.mpr ?positive,
      fun ht => exceeds_strict_eq_false_iff.mpr ?any, fun hc => exceeds_strict_iff.mpr ?zero⟩, rfl⟩
  case positive => omega
  case any => omega
  case zero => omega

/-! ### Relative mode (R143, R327) -/

theorem exec_setRelMouse (s : State) : exec .setRelMouse s =
    .next { s.dispatched with mmode := .relative, medr := if s.booting then true else s.medr } := rfl

/-- Settles O18: the two phases are the branches of MEDR's new value. -/
theorem setRelMouseRemembersBooting : Obligations.SetRelMouseRemembersBooting := by
  refine fun s => ⟨fun hbooting => ?_, fun hready => ?_⟩
  · rw [exec_setRelMouse, if_pos hbooting]
  · rw [exec_setRelMouse, if_neg (Bool.eq_false_iff.mp hready)]
    rfl

/-! ### The position (R144, R145, R151) -/

theorem umin16_toNat (a b : Word16) : (umin16 a b).toNat = min a.toNat b.toNat := by
  unfold umin16
  split <;> omega

theorem clampPos_absX_toNat (s : State) : (clampPos s).absX.toNat = min s.absX.toNat s.maxX.toNat :=
  umin16_toNat s.absX s.maxX

theorem clampPos_absY_toNat (s : State) : (clampPos s).absY.toNat = min s.absY.toNat s.maxY.toNat :=
  umin16_toNat s.absY s.maxY

theorem exec_setAbsMouse (mx my : Word16) (s : State) : exec (.setAbsMouse mx my) s =
    .next (clampPos { s.dispatched with mmode := .absolute, maxX := mx, maxY := my }) := rfl

theorem exec_loadMousePos (f : Byte) (x y : Word16) (s : State) : exec (.loadMousePos f x y) s =
    .next (clampPos { s.dispatched with absX := x, absY := y }) := rfl

/-- Settles O19: both commands store their operands and end in `clampPos`. -/
theorem positionCommandsClampToMaxima : Obligations.PositionCommandsClampToMaxima :=
  ⟨fun s mx my => ⟨_, exec_setAbsMouse mx my s, rfl, clampPos_absX_toNat _, clampPos_absY_toNat _⟩,
    fun s f x y => ⟨_, exec_loadMousePos f x y s, rfl, clampPos_absX_toNat _, clampPos_absY_toNat _⟩⟩

/-! ### The absolute packet (R149, R150) -/

theorem decide_ne_zero_eq_pressed (m : BitVec 2) : decide (m ≠ 0) = pressed m := by
  rw [pressed, Bool.eq_iff_iff, bne_iff_ne, decide_eq_true_iff]

theorem decide_eq_zero_eq_not_pressed (m : BitVec 2) : decide (m = 0) = !pressed m := by
  rw [← decide_ne_zero_eq_pressed, decide_not, Bool.not_not]

/-- The four button levels, bit 0 first (R149, GK5). -/
theorem buttonLevels_getLsbD (l r : BitVec 2) (k : Nat) : (buttonLevels l r).getLsbD k =
    [decide (r ≠ 0), decide (r = 0), decide (l ≠ 0), decide (l = 0)].getD k false := by
  rw [buttonLevels]
  simp only [decide_ne_zero_eq_pressed, decide_eq_zero_eq_not_pressed]
  match k with
  | 0 | 1 | 2 | 3 => cases pressed l <;> cases pressed r <;> rfl
  | k + 4 => exact BitVec.getLsbD_of_ge _ _ (by omega)

/-- The complement of the levels: pressed and released change places. -/
theorem buttonLevels_complement_getLsbD (l r : BitVec 2) (k : Nat) : (buttonLevels l r ^^^ 0b1111).getLsbD k =
    [decide (r = 0), decide (r ≠ 0), decide (l = 0), decide (l ≠ 0)].getD k false := by
  have hnot : buttonLevels l r ^^^ 0b1111 = ~~~buttonLevels l r := BitVec.xor_allOnes
  rw [hnot, BitVec.getLsbD_not, buttonLevels_getLsbD]
  match k with
  | 0 | 1 | 2 | 3 | k + 4 => simp

/-- The edge mask's byte in the packet (D16). -/
theorem edgeMask_getLsbD (l r : BitVec 2) (prev : BitVec 4) {k : Nat} (hk : k < 8) :
    ((buttonLevels l r &&& prev).setWidth 8).getLsbD k =
      ([decide (r ≠ 0), decide (r = 0), decide (l ≠ 0), decide (l = 0)].getD k false && prev.getLsbD k) := by
  rw [BitVec.getLsbD_setWidth, decide_eq_true hk, Bool.true_and, BitVec.getLsbD_and, buttonLevels_getLsbD]

theorem setWidth8_toNat_lt (mask : BitVec 4) : (mask.setWidth 8).toNat < 16 := by
  rw [BitVec.toNat_setWidth_of_le (by decide)]
  exact mask.isLt

theorem exec_interrogateMouse (s : State) : exec .interrogateMouse s = .next (absReport s.dispatched) := rfl

/-- Settles O20: `absReport_offers` gives the packet and the next ABS_PREV_MASK; the bits of both are those of the button
levels, and the position is split as `toNat_eq_bytes` says. -/
theorem interrogateMouseOffersAbsolutePacket : Obligations.InterrogateMouseOffersAbsolutePacket := by
  intro s hfifo
  have hedge {k : Nat} (hk : k < 8) := edgeMask_getLsbD s.btnL s.btnR s.absPrevMask hk
  have hnext := buttonLevels_complement_getLsbD s.btnL s.btnR
  exact ⟨_, _, _, _, _, _, _, exec_interrogateMouse s, absReport_offers (s := s.dispatched) hfifo,
    hedge (k := 0) (by decide), hedge (k := 1) (by decide), hedge (k := 2) (by decide), hedge (k := 3) (by decide),
    setWidth8_toNat_lt _, hnext 0, hnext 1, hnext 2, hnext 3, toNat_eq_bytes s.absX, toNat_eq_bytes s.absY⟩

end Sys2Proof.Machine
end

section
/-! The control and joystick commands (42_control_joystick_commands.md): O21 to O28, and the warm reset (O31). -/

namespace Sys2Proof.Machine

section
variable {s : State}

/-- What a dispatch answers, from what its handler makes of the state with PAUSE cleared (R125). -/
theorem dispatch_of_eq {handler : State → State} {u t : State} (h : handler { s with pause := false } = u)
    (ht : { u with cmdLen := 0 } = t) : dispatch handler s = .next t := by
  subst h ht
  rfl

/-! ### Commands without an effect of their own (R173, R180, R181) -/

theorem exec_resume (s : State) : exec .resume s = .next s.dispatched := rfl

theorem exec_nop18 (s : State) : exec .nop18 s = .next s.dispatched := rfl

theorem exec_nop19 (p1 p2 p3 p4 p5 p6 : Byte) (s : State) : exec (.nop19 p1 p2 p3 p4 p5 p6) s = .next s.dispatched :=
  rfl

/-! ### PAUSE (R73, R175) -/

theorem exec_pause_ready (h : s.booting = false) : exec .pause s = .next { s.dispatched with pause := true } := by
  rw [exec_pause, h, Bool.not_false]

theorem exec_pause_booting (h : s.booting = true) : exec .pause s = .next s.dispatched := by
  rw [exec_pause, h, Bool.not_true]
  rfl

/-- A packet offered while paused is dropped, the empty one too (R73, D3). -/
theorem enqueue_while_paused (h : s.pause = true) (p : List Byte) : enqueue p s = s := by
  have hdrop : ¬ admits s p.length = true := by simp [admits, h]
  simp only [enqueue, if_neg hdrop]

/-! ### The disable commands and the both-disabled quirk (R174, R182, R326) -/

theorem bothDisabledQuirk_of_both (hb : s.booting = true) (hm : s.mdis = true) (hj : s.jdis = true) :
    bothDisabledQuirk s = { s with mmode := .relative, jmode := .auto, both := true } :=
  if_pos (by rw [hb, hm, hj]; rfl)

theorem bothDisabledQuirk_of_mouse_enabled (hm : s.mdis = false) : bothDisabledQuirk s = s :=
  if_neg (by simp [hm])

theorem bothDisabledQuirk_of_joy_enabled (hj : s.jdis = false) : bothDisabledQuirk s = s :=
  if_neg (by simp [hj])

theorem exec_disableMouse (s : State) : exec .disableMouse s = dispatch (fun s =>
    if s.booting then bothDisabledQuirk { s with mmode := .off, mdis := true } else { s with mmode := .off }) s := rfl

theorem exec_disableJoy (s : State) : exec .disableJoy s = dispatch (fun s =>
    if s.booting then bothDisabledQuirk { s with jmode := .off, jdis := true } else { s with jmode := .off }) s := rfl

theorem exec_disableMouse_ready (h : s.booting = false) :
    exec .disableMouse s = .next { s.dispatched with mmode := .off } :=
  (exec_disableMouse s).trans (dispatch_of_eq (if_neg (Bool.eq_false_iff.mp h)) rfl)

theorem exec_disableJoy_ready (h : s.booting = false) :
    exec .disableJoy s = .next { s.dispatched with jmode := .off } :=
  (exec_disableJoy s).trans (dispatch_of_eq (if_neg (Bool.eq_false_iff.mp h)) rfl)

/-- While Booting the handler is the quirk, evaluated with MDIS already set (R325, R326). -/
theorem exec_disableMouse_booting (h : s.booting = true) {t : State}
    (hq : bothDisabledQuirk { s with pause := false, mmode := .off, mdis := true } = t) :
    exec .disableMouse s = .next { t with cmdLen := 0 } :=
  (exec_disableMouse s).trans (dispatch_of_eq ((if_pos h).trans hq) rfl)

/-- While Booting the handler is the quirk, evaluated with JDIS already set (R325, R326). -/
theorem exec_disableJoy_booting (h : s.booting = true) {t : State}
    (hq : bothDisabledQuirk { s with pause := false, jmode := .off, jdis := true } = t) :
    exec .disableJoy s = .next { t with cmdLen := 0 } :=
  (exec_disableJoy s).trans (dispatch_of_eq ((if_pos h).trans hq) rfl)

/-! ### The joystick modes (R176, R177, R179) -/

theorem exec_setJoyAuto (s : State) : exec .setJoyAuto s = .next { s.dispatched with
    jmode := .auto, mmode := if s.medr || s.mdis then .relative else .off } := rfl

theorem exec_setJoyOff (s : State) : exec .setJoyOff s = .next { s.dispatched with jmode := .off } := rfl

theorem exec_setJoyMonitor (r : Byte) (s : State) : exec (.setJoyMonitor r) s =
    .next { s.dispatched with jmode := .monitoring, jrate := if r = 0 then 1 else r } := rfl

/-! ### INTERROGATE_JOY (R178) -/

/-- The delayed path of R75 offers at once, and clearing PAUSE leaves the polled sticks as they are. -/
theorem exec_interrogateJoy (s : State) : exec .interrogateJoy s =
    dispatch (fun s' => enqueue [0xFD, s.jcur0, s.jcur1] s') s := by
  simp only [exec, execInterrogateJoy, dispatch, enqueueDelayed_eq]

/-! ### RESET (R172, R317) -/

theorem exec_reset_of_key_ne {k : Byte} (hk : k ≠ 0x01) (s : State) : exec (.reset k) s = .next s.dispatched :=
  dispatch_of_eq (if_neg hk) rfl

/-- A warm reset leaves bit 0 of a button mask, the physical source, and clears bit 1 (R58, D27). -/
theorem resetButton_warm (m : BitVec 2) : resetButton .warm m = m &&& 0b01 := by
  revert m
  decide

/-- R58's warm column: the start state but for CMDBUF, OUTBUF, the physical buttons and CLOCK, and for the
environment's lists. -/
theorem resetTo_warm_eq (s : State) : s.resetTo .warm = { State.initial s.cfg with
    inputs := s.inputs, outputs := s.outputs ++ [.bootTimerArm], freeCount := s.freeCount + 8,
    cmdBuf := (s.resetTo .warm).cmdBuf, out := { buf := s.out.buf, head := 0, tail := 0, count := 0 },
    btnL := s.btnL &&& 0b01, btnR := s.btnR &&& 0b01, clock := s.clock } := by
  rw [← resetButton_warm s.btnL, ← resetButton_warm s.btnR]
  rfl

end

/-- Settles O21: both have the empty handler, and `decode_encode` reads NOP_19's bytes back. -/
theorem unimplementedCommandsOnlyClearPause : Obligations.UnimplementedCommandsOnlyClearPause :=
  ⟨exec_nop18, fun s p1 p2 p3 p4 p5 p6 => exec_nop19 p1 p2 p3 p4 p5 p6 s, rfl,
    fun p1 p2 p3 p4 p5 p6 => ⟨rfl, decode_encode (.nop19 p1 p2 p3 p4 p5 p6)⟩, encode_length_le⟩

/-- Settles O22: RESUME has the empty handler, so whatever state PAUSE left, its dispatch clears the flag. -/
theorem resumeOnlyClearsPause : Obligations.ResumeOnlyClearsPause := by
  refine ⟨exec_resume, rfl, decode_encode .resume, fun s t u _ _ hresume => ?_⟩
  cases (exec_resume t).symm.trans hresume
  rfl

/-- Settles O23: PAUSE in each phase, and the drop it causes. -/
theorem pauseStopsPacketsInReadyOnly : Obligations.PauseStopsPacketsInReadyOnly :=
  ⟨fun _ => exec_pause_ready, fun _ => exec_pause_booting, fun _ p hpaused => enqueue_while_paused hpaused p⟩

/-- Settles O24: in Booting the command has just set its own flag, so the other one decides whether the quirk acts. -/
theorem disableCommandsAndBothDisabledQuirk : Obligations.DisableCommandsAndBothDisabledQuirk := by
  refine fun s => ⟨fun hready => ⟨exec_disableMouse_ready hready, exec_disableJoy_ready hready⟩,
    fun hb hj => ?mouse, fun hb hj => ?mouseQuirk, fun hb hm => ?joy, fun hb hm => ?joyQuirk⟩
  case mouse => exact exec_disableMouse_booting hb (bothDisabledQuirk_of_joy_enabled hj)
  case mouseQuirk => exact exec_disableMouse_booting hb (bothDisabledQuirk_of_both hb rfl hj)
  case joy => exact exec_disableJoy_booting hb (bothDisabledQuirk_of_mouse_enabled hm)
  case joyQuirk => exact exec_disableJoy_booting hb (bothDisabledQuirk_of_both hb hm rfl)

/-- Settles O25: the two cases are the branches of MMODE's new value (R328). -/
theorem setJoyAutoHonoursOverride : Obligations.SetJoyAutoHonoursOverride := by
  refine fun s => ⟨fun hset => ?override, fun ⟨hmedr, hmdis⟩ => ?off⟩
  case override => rw [exec_setJoyAuto, if_pos (Bool.or_eq_true_iff.mpr hset)]
  case off =>
    rw [exec_setJoyAuto, hmedr, hmdis]
    rfl

/-- Settles O26: the zero rate and the others are the branches of JRATE's new value. -/
theorem joystickModeCommands : Obligations.JoystickModeCommands := by
  refine ⟨exec_setJoyOff, exec_setJoyMonitor 0x00, fun s r hr => ?_⟩
  rw [exec_setJoyMonitor, if_neg hr]

/-- Settles O27: the handler offers the one packet. -/
theorem interrogateJoyOffersPolledSticks : Obligations.InterrogateJoyOffersPolledSticks :=
  fun s hfifo => responds_of_offer hfifo (by simp) (exec_interrogateJoy s)

/-- Settles O28: any other key takes the branch that keeps the state. -/
theorem malformedResetIsIgnored : Obligations.MalformedResetIsIgnored := fun s _ hk => exec_reset_of_key_ne hk s

/-- Settles O31: the key gives a warm reset of the dispatched state, in which the dispatch has touched only PAUSE and
CMDLEN, and the reset sets both. -/
theorem warmResetKeepsClockAndPhysicalButtons : Obligations.WarmResetKeepsClockAndPhysicalButtons :=
  fun s => ⟨_, exec_reset s, resetTo_warm_eq s.dispatched⟩

end Sys2Proof.Machine
end

section
/-! The report commands (43_report_commands.md): the mouse mode (O34), the other mouse settings (O35) and the joystick
(O36). Each handler is one `offerReport`; `responds_of_offerReport` says what that does, and the frames are read off the
registers. -/

namespace Sys2Proof.Machine

section
variable {s : State}

/-! ### The offer of a report (R201, R202) -/

theorem ReportLen.bytes_pos (len : ReportLen) : 0 < len.bytes := by
  cases len with
  | seven => decide
  | eight => decide

/-- A report is never the empty packet, which `enqueue` would not offer at all. -/
theorem take_bytes_length_pos {f : List Byte} (hf : f.length = 8) (len : ReportLen) :
    0 < (f.take len.bytes).length := by
  have hlen := ReportLen.bytes_pos len
  rw [List.length_take]
  omega

/-- The delayed path of R75 offers at once. -/
theorem offerReport_eq (c : Byte) (len : ReportLen) (f : List Byte) :
    offerReport c len f = enqueue (f.take len.bytes) :=
  funext fun s => enqueueDelayed_eq (Config.responseDelay c) (f.take len.bytes) s

/-- A command whose handler is the offer of a frame responds with the frame's first REPORT_LEN bytes. -/
theorem responds_of_offerReport {i : Instr} {c : Byte} {len : ReportLen} {f : List Byte}
    (hfifo : FifoWf s.cfg.outCap s.out) (hf : f.length = 8) (h : exec i s = dispatch (offerReport c len f) s) :
    Responds s i (f.take len.bytes) := by
  rw [offerReport_eq] at h
  exact responds_of_offer hfifo (take_bytes_length_pos hf len) h

/-! ### The frames (R203, R210, R213) -/

theorem frame_length (sub d1 d2 d3 d4 : Byte) : (frame sub d1 d2 d3 d4).length = 8 := rfl

theorem mouseModeFrame_relative (h : s.mmode = .relative) : mouseModeFrame s = [0xF6, 0x08, 0, 0, 0, 0, 0, 0] := by
  simp only [mouseModeFrame, h, frame]

theorem mouseModeFrame_cursorKey (h : s.mmode = .cursorKey) :
    mouseModeFrame s = [0xF6, 0x0A, s.kcX, s.kcY, 0, 0, 0, 0] := by
  simp only [mouseModeFrame, h, frame]

theorem mouseModeFrame_off (h : s.mmode = .off) : mouseModeFrame s = [0xF6, 0x12, 0, 0, 0, 0, 0, 0] := by
  simp only [mouseModeFrame, h, frame]

theorem mouseModeFrame_length (s : State) : (mouseModeFrame s).length = 8 := by
  unfold mouseModeFrame
  cases s.mmode <;> exact frame_length ..

theorem joyModeFrame_auto (h : s.jmode = .auto) : joyModeFrame s = [0xF6, 0x14, 0, 0, 0, 0, 0, 0] := by
  simp only [joyModeFrame, h, frame]

theorem joyModeFrame_off (h : s.jmode = .off) : joyModeFrame s = [0xF6, 0x15, 0, 0, 0, 0, 0, 0] := by
  simp only [joyModeFrame, h, frame]

theorem joyModeFrame_monitoring (h : s.jmode = .monitoring) :
    joyModeFrame s = [0xF6, 0x17, s.jrate, 0, 0, 0, 0, 0] := by
  simp only [joyModeFrame, h, frame]

theorem joyModeFrame_length (s : State) : (joyModeFrame s).length = 8 := by
  unfold joyModeFrame
  cases s.jmode <;> exact frame_length ..

/-- The sign is reported under the header code of the command that sets it (R210). -/
theorem ysignFrame_eq (s : State) :
    ysignFrame s = [0xF6, if s.ysign = false then 0x0F else 0x10, 0, 0, 0, 0, 0, 0] := by
  unfold ysignFrame
  cases s.ysign with
  | false => rfl
  | true => rfl

theorem ysignFrame_length (s : State) : (ysignFrame s).length = 8 := frame_length ..

/-! ### The commands (R204 to R216): clearing PAUSE changes neither the frame nor REPORT_LEN -/

theorem exec_reportAction (s : State) : exec .reportAction s =
    dispatch (offerReport 0x87 s.cfg.reportLen.r87 (frame 0x07 (s.action.setWidth 8) 0 0 0)) s := rfl

theorem exec_reportMouseMode88 (s : State) : exec .reportMouseMode88 s =
    dispatch (offerReport 0x88 s.cfg.reportLen.r88 (mouseModeFrame s)) s := rfl

theorem exec_reportMouseMode89 (s : State) : exec .reportMouseMode89 s =
    dispatch (offerReport 0x89 s.cfg.reportLen.r89 (mouseModeFrame s)) s := rfl

theorem exec_reportMouseMode8A (s : State) : exec .reportMouseMode8A s =
    dispatch (offerReport 0x8A s.cfg.reportLen.r8A (mouseModeFrame s)) s := rfl

theorem exec_reportThreshold (s : State) : exec .reportThreshold s =
    dispatch (offerReport 0x8B s.cfg.reportLen.r8B (frame 0x0B s.thrX s.thrY 0 0)) s := rfl

theorem exec_reportScale (s : State) : exec .reportScale s =
    dispatch (offerReport 0x8C s.cfg.reportLen.r8C (frame 0x0C s.scaleX s.scaleY 0 0)) s := rfl

theorem exec_reportYsign8F (s : State) : exec .reportYsign8F s =
    dispatch (offerReport 0x8F s.cfg.reportLen.r8F (ysignFrame s)) s := rfl

theorem exec_reportYsign90 (s : State) : exec .reportYsign90 s =
    dispatch (offerReport 0x90 s.cfg.reportLen.r90 (ysignFrame s)) s := rfl

theorem exec_reportMouseAvail (s : State) : exec .reportMouseAvail s = dispatch
    (offerReport 0x92 s.cfg.reportLen.r92 (frame (if s.mmode = .off then 0x12 else 0x00) 0 0 0 0)) s := rfl

theorem exec_reportJoyMode94 (s : State) : exec .reportJoyMode94 s =
    dispatch (offerReport 0x94 s.cfg.reportLen.r94 (joyModeFrame s)) s := rfl

theorem exec_reportJoyMode95 (s : State) : exec .reportJoyMode95 s =
    dispatch (offerReport 0x95 s.cfg.reportLen.r95 (joyModeFrame s)) s := rfl

theorem exec_reportJoyMode99 (s : State) : exec .reportJoyMode99 s =
    dispatch (offerReport 0x99 s.cfg.reportLen.r99 (joyModeFrame s)) s := rfl

theorem exec_reportJoyAvail (s : State) : exec .reportJoyAvail s = dispatch
    (offerReport 0x9A s.cfg.reportLen.r9A (frame (if s.jmode = .off then 0x1A else 0x00) 0 0 0 0)) s := rfl

end

/-- Settles O34: the three commands offer the one `mouseModeFrame`, which has a layout per mode. -/
theorem mouseModeReportsOfferModeFrame : Obligations.MouseModeReportsOfferModeFrame := by
  intro s hfifo
  have hlen := mouseModeFrame_length s
  refine ⟨mouseModeFrame s, ?report88, ?report89, ?report8A, mouseModeFrame_relative, fun habs => ?absolute,
    mouseModeFrame_cursorKey, mouseModeFrame_off⟩
  case report88 => exact responds_of_offerReport hfifo hlen (exec_reportMouseMode88 s)
  case report89 => exact responds_of_offerReport hfifo hlen (exec_reportMouseMode89 s)
  case report8A => exact responds_of_offerReport hfifo hlen (exec_reportMouseMode8A s)
  case absolute => exact ⟨_, _, _, _, mouseModeFrame_absolute habs, toNat_eq_bytes s.maxX, toNat_eq_bytes s.maxY⟩

/-- Settles O35: the three action bits are reported zero-extended; both sign commands offer the one `ysignFrame`. -/
theorem mouseSettingReportsOfferFrames : Obligations.MouseSettingReportsOfferFrames := by
  intro s hfifo
  have hwidth : (s.action.setWidth 8).toNat = s.action.toNat := BitVec.toNat_setWidth_of_le (by decide)
  have hlen := ysignFrame_length s
  refine ⟨⟨s.action.setWidth 8, hwidth, ?action⟩, ?threshold, ?scale, ⟨_, rfl, ?ysign8F, ?ysign90⟩, ⟨_, rfl, ?avail⟩⟩
  case action => exact responds_of_offerReport hfifo (frame_length ..) (exec_reportAction s)
  case threshold => exact responds_of_offerReport hfifo (frame_length ..) (exec_reportThreshold s)
  case scale => exact responds_of_offerReport hfifo (frame_length ..) (exec_reportScale s)
  case ysign8F => exact ysignFrame_eq s ▸ responds_of_offerReport hfifo hlen (exec_reportYsign8F s)
  case ysign90 => exact ysignFrame_eq s ▸ responds_of_offerReport hfifo hlen (exec_reportYsign90 s)
  case avail => exact responds_of_offerReport hfifo (frame_length ..) (exec_reportMouseAvail s)

/-- Settles O36: the three commands offer the one `joyModeFrame`, which has a layout per mode. -/
theorem joystickReportsOfferFrames : Obligations.JoystickReportsOfferFrames := by
  intro s hfifo
  have hlen := joyModeFrame_length s
  refine ⟨⟨joyModeFrame s, ?report94, ?report95, ?report99, joyModeFrame_auto, joyModeFrame_off,
    joyModeFrame_monitoring⟩, ⟨_, rfl, ?avail⟩⟩
  case report94 => exact responds_of_offerReport hfifo hlen (exec_reportJoyMode94 s)
  case report95 => exact responds_of_offerReport hfifo hlen (exec_reportJoyMode95 s)
  case report99 => exact responds_of_offerReport hfifo hlen (exec_reportJoyMode99 s)
  case avail => exact responds_of_offerReport hfifo (frame_length ..) (exec_reportJoyAvail s)

end Sys2Proof.Machine
end

section
/-! The tests and the relative mode of the mouse report engine (44_mouse_report_engine.md): the button edges (O43), one
relative step (O46) and the relative report (O47). `while_due_eq_iterate` says what a loop on fuel does, and serves the
cursor report too. -/

namespace Sys2Proof.Machine

section
variable {s : State}

/-! ### Button edges (R235) -/

theorem pressed_iff {m : BitVec 2} : pressed m = true ↔ m ≠ 0 := bne_iff_ne

theorem pressed_eq_false_iff {m : BitVec 2} : pressed m = false ↔ m = 0 := bne_eq_false_iff_eq

theorem pressed_bne_iff {m n : BitVec 2} : (pressed m != pressed n) = true ↔ ¬ (m ≠ 0 ↔ n ≠ 0) := by
  rw [bne_iff_ne, Ne, Bool.eq_iff_iff, pressed_iff, pressed_iff]

theorem pressEdge_iff : pressEdge s = true ↔
    (s.btnL ≠ 0 ∧ s.btnLPrev = 0) ∨ (s.btnR ≠ 0 ∧ s.btnRPrev = 0) := by
  simp only [pressEdge, Bool.or_eq_true, Bool.and_eq_true, Bool.not_eq_true', pressed_iff, pressed_eq_false_iff]

theorem releaseEdge_iff : releaseEdge s = true ↔
    (s.btnL = 0 ∧ s.btnLPrev ≠ 0) ∨ (s.btnR = 0 ∧ s.btnRPrev ≠ 0) := by
  simp only [releaseEdge, Bool.or_eq_true, Bool.and_eq_true, Bool.not_eq_true', pressed_iff, pressed_eq_false_iff]

/-- Settles O43: a mask is pressed when it is not zero, whatever its source bits. -/
theorem edgesCompareOnlyPressed : Obligations.EdgesCompareOnlyPressed := by
  refine fun s => ⟨pressed_bne_iff, pressed_bne_iff, pressEdge_iff, releaseEdge_iff, fun hnow hprev => ?_⟩
  rw [edgeR, hnow, hprev]
  rfl

/-- No edge is left once the buttons are latched. -/
@[simp] theorem latchButtons_edgeL (s : State) : edgeL (latchButtons s) = false := bne_self_eq_false _

@[simp] theorem latchButtons_edgeR (s : State) : edgeR (latchButtons s) = false := bne_self_eq_false _

/-! ### The threshold compare (R240, D6) -/

theorem exceeds_nonstrict_iff {c t : Int} : exceeds false c t = true ↔ (c < 0 ∧ c ≤ -t) ∨ (0 < c ∧ t ≤ c) :=
  decide_eq_true_iff

/-- A count of zero exceeds no threshold, under either form. -/
theorem exceeds_zero (strict : Bool) (t : Int) : exceeds strict 0 t = false := by
  rw [← Bool.not_eq_true]
  cases strict with
  | true =>
    rw [exceeds_strict_iff]
    omega
  | false =>
    rw [exceeds_nonstrict_iff]
    omega

theorem relDue_iff : relDue s = true ↔
    exceeds s.cfg.threshStrict (relClamp s.deltaX) s.thrX.toNat = true ∨
    exceeds s.cfg.threshStrict (relClamp s.deltaY) s.thrY.toNat = true ∨ edgeL s = true ∨ edgeR s = true := by
  simp only [relDue, zext8, Bool.or_eq_true, or_assoc]

/-! ### One relative step (R241) -/

theorem relStep_of_due (h : relDue s = true) : relStep s = some (relAdvance s) := if_pos h

theorem relStep_of_not_due (h : ¬ relDue s = true) : relStep s = none := if_neg h

theorem relAdvance_deltaX_toInt (s : State) : (relAdvance s).deltaX.toInt = s.deltaX.toInt - relClamp s.deltaX :=
  relClamp_residual s.deltaX

theorem relAdvance_deltaY_toInt (s : State) : (relAdvance s).deltaY.toInt = s.deltaY.toInt - relClamp s.deltaY :=
  relClamp_residual s.deltaY

/-- The header's button bits do not meet 0xF8 (GK4). -/
theorem relHeader_toNat (l r : BitVec 2) :
    (0xF8 ||| relButtons l r).toNat = 0xF8 + (if l ≠ 0 then 2 else 0) + (if r ≠ 0 then 1 else 0) := by
  simp only [relButtons, pressed_iff]
  split <;> split <;> rfl

/-- One packet byte holds every clamped residual exactly. -/
theorem u8_relClamp_toInt (d : Word32) : (u8 (relClamp d)).toInt = relClamp d := by
  rw [relClamp_eq, u8, BitVec.toInt_ofInt]
  simp only [Int.bmod]
  omega

/-- The packet's Y byte under each sign (R34, D15). -/
theorem relYByte (d : Word32) (ysign : Bool) :
    (ysign = false → (u8 (relClamp d * ysignFactor ysign)).toInt = relClamp d) ∧
    (ysign = true → u8 (relClamp d * ysignFactor ysign) = BitVec.ofInt 8 (-relClamp d)) := by
  refine ⟨fun hpos => ?_, fun hneg => ?_⟩
  · have hfactor : ysignFactor ysign = 1 := by rw [hpos]; rfl
    rw [hfactor, Int.mul_one, u8_relClamp_toInt]
  · have hfactor : ysignFactor ysign = -1 := by rw [hneg]; rfl
    rw [hfactor, Int.mul_neg_one, u8]

/-- Settles O46: the step is `relAdvance` exactly where `relDue` holds; `enqueue_offers` gives its packet. -/
theorem relativeStepOffersClampedMotion : Obligations.RelativeStepOffersClampedMotion := by
  refine ⟨fun _ _ => exceeds_strict_iff, fun _ _ => exceeds_nonstrict_iff, fun s hfifo =>
    ⟨relClamp s.deltaX, relClamp s.deltaY, rfl, rfl, fun hx hy hl hr => relStep_of_not_due ?quiet, fun howed => ?owed⟩⟩
  case quiet =>
    rw [relDue_iff, hx, hy, hl, hr]
    decide
  case owed =>
    have hx := relAdvance_deltaX_toInt s
    have hy := relAdvance_deltaY_toInt s
    obtain ⟨hpos, hneg⟩ := relYByte s.deltaY s.ysign
    exact ⟨relAdvance s, enqueue (relPacket s) s, _, _, _, relStep_of_due (relDue_iff.mpr howed),
      enqueue_offers (Nat.succ_pos 2) hfifo, rfl, by omega, by omega, relHeader_toNat s.btnL s.btnR,
      u8_relClamp_toInt s.deltaX, hpos, hneg⟩

/-! ### Loops on fuel (R242, R244) -/

/-- A loop that runs `step` while `due`, on fuel: it is some number of steps, each due when taken, and none is due after
it unless the fuel ran out. -/
theorem while_due_eq_iterate {due : State → Bool} {step : State → State} {loop : Nat → State → State}
    (hzero : ∀ s, loop 0 s = s) (hsucc : ∀ n s, loop (n + 1) s = if due s then loop n (step s) else s)
    (n : Nat) (s : State) : ∃ k, k ≤ n ∧ loop n s = step^[k] s ∧ (∀ j, j < k → due (step^[j] s) = true) ∧
      (k < n → due (loop n s) = false) := by
  induction n generalizing s with
  | zero => exact ⟨0, Nat.le_refl 0, hzero s, nofun, nofun⟩
  | succ n ih =>
    by_cases hdue : due s = true
    · obtain ⟨k, hk, hloop, hsteps, hend⟩ := ih (step s)
      have hrun : loop (n + 1) s = loop n (step s) := by rw [hsucc, if_pos hdue]
      refine ⟨k + 1, Nat.succ_le_succ hk, hrun.trans hloop, fun j hj => ?_, fun hlt => ?_⟩
      · cases j with
        | zero => exact hdue
        | succ j => exact hsteps j (Nat.lt_of_succ_lt_succ hj)
      · exact hrun ▸ hend (Nat.lt_of_succ_lt_succ hlt)
    · have hstop : loop (n + 1) s = s := by rw [hsucc, if_neg hdue]
      refine ⟨0, Nat.zero_le _, hstop, nofun, fun _ => ?_⟩
      rw [hstop]
      exact Bool.eq_false_iff.mpr hdue

/-! ### The relative report (R242, R248) -/

theorem relReport_perTick (h : s.cfg.relLoop = .perTick) : relReport s = (relStep s).getD s := by
  simp only [relReport, h]

theorem relReport_untilConverged (h : s.cfg.relLoop = .untilConverged) : relReport s = relLoop (relFuel s) s := by
  simp only [relReport, h]

/-- The larger residual. -/
def relResidual (s : State) : Nat := max s.deltaX.toInt.natAbs s.deltaY.toInt.natAbs

/-- How many relative steps can still be owed: one for each 127 counts of the larger residual, and one for an edge,
which the same step carries. -/
def relBudget (s : State) : Nat := max ((relResidual s + 126) / 127) (if edgeL s || edgeR s then 1 else 0)

/-- One packet takes 127 counts out of a residual, or all that is left (R248). -/
theorem natAbs_sub_relClamp_le (d : Word32) : (d.toInt - relClamp d).natAbs ≤ d.toInt.natAbs - 127 := by
  rw [relClamp_eq]
  omega

theorem relResidual_relAdvance_le (s : State) : relResidual (relAdvance s) ≤ relResidual s - 127 := by
  have hx := natAbs_sub_relClamp_le s.deltaX
  have hy := natAbs_sub_relClamp_le s.deltaY
  rw [relResidual, relResidual, relAdvance_deltaX_toInt, relAdvance_deltaY_toInt, ← Nat.sub_max_sub_right]
  exact max_le_max hx hy

theorem relBudget_relAdvance (s : State) : relBudget (relAdvance s) = (relResidual (relAdvance s) + 126) / 127 := by
  simp [relBudget, relAdvance]

/-- Without an edge only a residual that is not zero can be owed. -/
theorem relResidual_pos_of_due (h : relDue s = true) (hedge : ¬ (edgeL s || edgeR s) = true) : 0 < relResidual s := by
  rw [Bool.or_eq_true] at hedge
  by_contra hzero
  rw [relResidual] at hzero
  have hx : relClamp s.deltaX = 0 := by
    rw [relClamp_eq]
    omega
  have hy : relClamp s.deltaY = 0 := by
    rw [relClamp_eq]
    omega
  rw [relDue_iff, hx, hy, exceeds_zero, exceeds_zero] at h
  exact hedge (by simpa using h)

theorem relBudget_pos_of_due (h : relDue s = true) : 0 < relBudget s := by
  rw [relBudget]
  by_cases hedge : (edgeL s || edgeR s) = true
  · rw [if_pos hedge]
    omega
  · have := relResidual_pos_of_due h hedge
    omega

theorem relBudget_relAdvance_lt (h : relDue s = true) : relBudget (relAdvance s) < relBudget s := by
  have hpos := relBudget_pos_of_due h
  have hshrink := relResidual_relAdvance_le s
  have hle : (relResidual s + 126) / 127 ≤ relBudget s := Nat.le_max_left _ _
  rw [relBudget_relAdvance]
  omega

/-- A chain of owed steps is no longer than the budget. -/
theorem length_le_relBudget {k : Nat} (h : ∀ j, j < k → relDue (relAdvance^[j] s) = true) : k ≤ relBudget s := by
  induction k generalizing s with
  | zero => exact Nat.zero_le _
  | succ k ih =>
    have hfirst := relBudget_relAdvance_lt (h 0 k.succ_pos)
    have hrest := ih (s := relAdvance s) fun j hj => h (j + 1) (Nat.succ_lt_succ hj)
    exact Nat.lt_of_le_of_lt hrest hfirst

/-- R248's bound, and that the model's fuel is more than the budget (log 17). -/
theorem relBudget_le (s : State) : relBudget s ≤ (relResidual s + 126) / 127 + 1 ∧ relBudget s < relFuel s := by
  have hfuel : relFuel s = relResidual s / 127 + 2 := rfl
  rw [hfuel, relBudget]
  split <;> omega

/-- Settles O47: `while_due_eq_iterate` gives the steps, and the budget that each of them lowers ends them before the
fuel does. -/
theorem relativeReportPolicies : Obligations.RelativeReportPolicies := by
  refine ⟨fun s hper => ⟨fun hnone => ?none, fun t hsome => ?some⟩, fun s hloops => ?converged⟩
  case none => rw [relReport_perTick hper, hnone, Option.getD_none]
  case some => rw [relReport_perTick hper, hsome, Option.getD_some]
  case converged =>
    obtain ⟨k, -, hrun, hdue, hend⟩ := while_due_eq_iterate (fun _ => rfl) relLoop_succ (relFuel s) s
    obtain ⟨hbound, hfuel⟩ := relBudget_le s
    have hk := length_le_relBudget hdue
    rw [← relReport_untilConverged hloops] at hrun hend
    refine ⟨k, fun j => relAdvance^[j] s, rfl, fun j hj => ?_, hrun, relStep_of_not_due ?_, hk.trans hbound⟩
    · exact (relStep_of_due (hdue j hj)).trans (congrArg some (Function.iterate_succ_apply' relAdvance j s).symm)
    · exact Bool.eq_false_iff.mp (hend (Nat.lt_of_le_of_lt hk hfuel))

end

end Sys2Proof.Machine
end

section
/-! The cursor-key mode of the mouse report engine (44_mouse_report_engine.md): one cursor step (O48) and the cursor
report (O49). `axisStep` is the one form of the step's X and Y halves, and `axisStep_cases` lists its branches. -/

namespace Sys2Proof.Machine

section
variable {s : State}

theorem Reports.fifoWf {t : State} (h : Reports s t) (w : FifoWf s.cfg.outCap s.out) : FifoWf t.cfg.outCap t.out :=
  h.cfg_eq ▸ h.fifo w

/-! ### Buttons as keys (R236, R245, D11) -/

theorem buttonKey_pressed (code : Byte) (m : BitVec 2) :
    buttonKey code (pressed m) = if m ≠ 0 then code else code ||| 0x80 := by
  rw [buttonKey]
  simp only [pressed_iff]

theorem enqueue_buttonKey_offers (hfifo : FifoWf s.cfg.outCap s.out) (code : Byte) (m : BitVec 2) :
    Offers s (enqueue [buttonKey code (pressed m)] s) [if m ≠ 0 then code else code ||| 0x80] := by
  rw [buttonKey_pressed]
  exact enqueue_offers Nat.one_pos hfifo

theorem cursorButtonL_cases (hfifo : FifoWf s.cfg.outCap s.out) :
    (edgeL s = true ∧ ∃ u, Offers s u [if s.btnL ≠ 0 then 0x74 else 0xF4] ∧
      cursorButtonL s = { u with btnLPrev := s.btnL }) ∨ (edgeL s = false ∧ cursorButtonL s = s) := by
  unfold cursorButtonL
  cases edgeL s with
  | true => exact .inl ⟨rfl, _, enqueue_buttonKey_offers hfifo leftKey s.btnL, rfl⟩
  | false => exact .inr ⟨rfl, rfl⟩

theorem cursorButtonR_cases (hfifo : FifoWf s.cfg.outCap s.out) :
    (edgeR s = true ∧ ∃ u, Offers s u [if s.btnR ≠ 0 then 0x75 else 0xF5] ∧
      cursorButtonR s = { u with btnRPrev := s.btnR }) ∨ (edgeR s = false ∧ cursorButtonR s = s) := by
  unfold cursorButtonR
  cases edgeR s with
  | true => exact .inl ⟨rfl, _, enqueue_buttonKey_offers hfifo rightKey s.btnR, rfl⟩
  | false => exact .inr ⟨rfl, rfl⟩

/-! ### One axis (R243) -/

/-- A step back moves a residual toward 0 and never wraps: the residual is at or below the negated step size. -/
theorem s32_stepBack_toInt {d : Word32} {k : Byte} (h : d.toInt ≤ -(k.toNat : Int)) :
    (s32 (sext32 d + zext8 k)).toInt = d.toInt + k.toNat := by
  have hfits := toInt_word32_fits d
  rw [sext32, zext8]
  exact s32_toInt_of_fits (by omega) (by omega)

theorem s32_stepForward_toInt {d : Word32} {k : Byte} (h : (k.toNat : Int) ≤ d.toInt) :
    (s32 (sext32 d - zext8 k)).toInt = d.toInt - k.toNat := by
  have hfits := toInt_word32_fits d
  rw [sext32, zext8]
  exact s32_toInt_of_fits (by omega) (by omega)

/-- Half of a cursor step: the axis with residual register `d`, written by `setD`, step size `k` and key codes `back`
and `forward`. -/
def axisStep (d : State → Word32) (setD : Word32 → State → State) (k back forward : Byte) (s : State) : State :=
  if stepsBack (sext32 (d s)) (zext8 k) then setD (s32 (sext32 (d s) + zext8 k)) (enqueue (keyStroke back) s)
  else if stepsForward (sext32 (d s)) (zext8 k) then
    setD (s32 (sext32 (d s) - zext8 k)) (enqueue (keyStroke forward) s)
  else s

theorem cursorStepX_eq (s : State) :
    cursorStepX s = axisStep State.deltaX (fun v u => { u with deltaX := v }) s.kcX 0x4B 0x4D s := rfl

theorem cursorStepY_eq (s : State) :
    cursorStepY s = axisStep State.deltaY (fun v u => { u with deltaY := v }) s.kcY 0x48 0x50 s := rfl

/-- The branches of an axis, told apart by the sign of the residual: a stroke back, a stroke forward, or nothing. -/
theorem axisStep_cases {d : State → Word32} {setD : Word32 → State → State} (hd : ∀ v u, d (setD v u) = v)
    (k back forward : Byte) (hfifo : FifoWf s.cfg.outCap s.out) {t : State}
    (ht : t = axisStep d setD k back forward s) :
    (((d s).toInt < 0 ∧ (d s).toInt ≤ -(k.toNat : Int)) ∧
      (∃ u, Offers s u (keyStroke back) ∧ t = setD (d t) u) ∧ (d t).toInt = (d s).toInt + k.toNat) ∨
    ((0 < (d s).toInt ∧ (k.toNat : Int) ≤ (d s).toInt) ∧
      (∃ u, Offers s u (keyStroke forward) ∧ t = setD (d t) u) ∧ (d t).toInt = (d s).toInt - k.toNat) ∨
    (((d s).toInt = 0 ∨ (-(k.toNat : Int) < (d s).toInt ∧ (d s).toInt < k.toNat)) ∧ t = s) := by
  have hoffers (code : Byte) : Offers s (enqueue (keyStroke code) s) (keyStroke code) :=
    enqueue_offers (Nat.succ_pos 1) hfifo
  have hback : stepsBack (sext32 (d s)) (zext8 k) = true ↔ (d s).toInt ≠ 0 ∧ (d s).toInt ≤ -(k.toNat : Int) :=
    stepsBack_iff
  have hforward : stepsForward (sext32 (d s)) (zext8 k) = true ↔ (d s).toInt ≠ 0 ∧ (k.toNat : Int) ≤ (d s).toInt :=
    stepsForward_iff
  unfold axisStep at ht
  split at ht
  next h =>
    rw [hback] at h
    subst ht
    rw [hd]
    exact .inl ⟨by omega, ⟨_, hoffers back, rfl⟩, s32_stepBack_toInt h.2⟩
  next hnot =>
    rw [hback] at hnot
    split at ht
    next h =>
      rw [hforward] at h
      subst ht
      rw [hd]
      exact .inr (.inl ⟨by omega, ⟨_, hoffers forward, rfl⟩, s32_stepForward_toInt h.2⟩)
    next hnot' =>
      rw [hforward] at hnot'
      exact .inr (.inr ⟨by omega, ht⟩)

/-! ### The step (R243, R245) -/

theorem cursorStepX_rest (s : State) :
    cursorStepX s = { s with out := (cursorStepX s).out, deltaX := (cursorStepX s).deltaX } := by
  unfold cursorStepX
  split
  · rfl
  · split <;> rfl

theorem cursorStepY_rest (s : State) :
    cursorStepY s = { s with out := (cursorStepY s).out, deltaY := (cursorStepY s).deltaY } := by
  unfold cursorStepY
  split
  · rfl
  · split <;> rfl

theorem cursorButtonL_rest (s : State) :
    cursorButtonL s = { s with out := (cursorButtonL s).out, btnLPrev := (cursorButtonL s).btnLPrev } := by
  unfold cursorButtonL
  split <;> rfl

/-- Settles O48: each part of the step changes nothing that a later part tests. -/
theorem cursorStepOffersStrokesThenEdges : Obligations.CursorStepOffersStrokesThenEdges := by
  intro s hs
  obtain ⟨a, ha⟩ : ∃ a, cursorStepX s = a := ⟨_, rfl⟩
  obtain ⟨b, hb⟩ : ∃ b, cursorStepY a = b := ⟨_, rfl⟩
  obtain ⟨c, hc⟩ : ∃ c, cursorButtonL b = c := ⟨_, rfl⟩
  have hstep : cursorStep s = cursorButtonR c := by rw [cursorStep, ha, hb, hc]
  have hfifoA : FifoWf a.cfg.outCap a.out := ha ▸ (cursorStepX_reports s).fifoWf hs
  have hfifoB : FifoWf b.cfg.outCap b.out := hb ▸ (cursorStepY_reports a).fifoWf hfifoA
  have hfifoC : FifoWf c.cfg.outCap c.out := hc ▸ (cursorButtonL_reports b).fifoWf hfifoB
  have hX := axisStep_cases (fun _ _ => rfl) s.kcX 0x4B 0x4D hs (ha ▸ cursorStepX_eq s)
  have hY := axisStep_cases (fun _ _ => rfl) a.kcY 0x48 0x50 hfifoA (hb ▸ cursorStepY_eq a)
  have hL := hc ▸ cursorButtonL_cases hfifoB
  have hR := cursorButtonR_cases hfifoC
  have hrestA := ha ▸ cursorStepX_rest s
  have hrestB := hb ▸ cursorStepY_rest a
  have hrestC := hc ▸ cursorButtonL_rest b
  rw [show a.deltaY = s.deltaY by rw [hrestA], show a.kcY = s.kcY by rw [hrestA]] at hY
  rw [show edgeL b = edgeL s by rw [hrestB, hrestA]; rfl, show b.btnL = s.btnL by rw [hrestB, hrestA]] at hL
  rw [show edgeR c = edgeR s by rw [hrestC, hrestB, hrestA]; rfl,
    show c.btnR = s.btnR by rw [hrestC, hrestB, hrestA]] at hR
  exact ⟨a, b, c, cursorButtonR c, hstep, hX, hY, hL, hR⟩

/-! ### The report (R244) -/

theorem cursorDue_iff : cursorDue s = true ↔
    (s.deltaX.toInt ≠ 0 ∧ (s.deltaX.toInt ≤ -(s.kcX.toNat : Int) ∨ (s.kcX.toNat : Int) ≤ s.deltaX.toInt)) ∨
    (s.deltaY.toInt ≠ 0 ∧ (s.deltaY.toInt ≤ -(s.kcY.toNat : Int) ∨ (s.kcY.toNat : Int) ≤ s.deltaY.toInt)) ∨
    edgeL s = true ∨ edgeR s = true := by
  simp only [cursorDue, Bool.or_eq_true, stepsBack_iff, stepsForward_iff, and_or_left, or_assoc, sext32, zext8]

/-- Settles O49: `cursorLoop` is a loop on fuel of ten steps. -/
theorem cursorReportStopsAtTenSteps : Obligations.CursorReportStopsAtTenSteps :=
  ⟨fun _ => cursorDue_iff, while_due_eq_iterate (fun _ => rfl) (fun _ _ => rfl) cursorMaxSteps⟩

end

end Sys2Proof.Machine
end

section
/-! The mouse half of a tick (44_mouse_report_engine.md R236 to R239, R246): O50. -/

namespace Sys2Proof.Machine

section
variable {s : State}

/-! ### Buttons as keys (R236) -/

theorem offerLeftKey_offers (hfifo : FifoWf s.cfg.outCap s.out) (h : edgeL s = true) :
    Offers s (offerLeftKey s) [if s.btnL ≠ 0 then 0x74 else 0xF4] := by
  rw [offerLeftKey, if_pos h]
  exact enqueue_buttonKey_offers hfifo leftKey s.btnL

theorem offerLeftKey_of_no_edge (h : edgeL s = false) : offerLeftKey s = s := if_neg (Bool.eq_false_iff.mp h)

theorem offerRightKey_offers (hfifo : FifoWf s.cfg.outCap s.out) (h : edgeR s = true) :
    Offers s (offerRightKey s) [if s.btnR ≠ 0 then 0x75 else 0xF5] := by
  rw [offerRightKey, if_pos h]
  exact enqueue_buttonKey_offers hfifo rightKey s.btnR

theorem offerRightKey_of_no_edge (h : edgeR s = false) : offerRightKey s = s := if_neg (Bool.eq_false_iff.mp h)

/-- The keys write the FIFO alone. -/
theorem offerLeftKey_rest (s : State) : offerLeftKey s = { s with out := (offerLeftKey s).out } := by
  unfold offerLeftKey
  split <;> rfl

theorem offerRightKey_rest (s : State) : offerRightKey s = { s with out := (offerRightKey s).out } := by
  unfold offerRightKey
  split <;> rfl

theorem keysReport_eq (s : State) : keysReport s = { offerRightKey (offerLeftKey s) with
    btnLPrev := s.btnL, btnRPrev := s.btnR, deltaX := 0, deltaY := 0 } := by
  rw [keysReport, offerRightKey_rest, offerLeftKey_rest]
  rfl

/-! ### The forced absolute report and the mode's own (R237 to R239) -/

theorem forcedAbsReport_eq (s : State) : forcedAbsReport s =
    if (s.action.getLsbD 0 = true ∧ pressEdge s = true) ∨ (s.action.getLsbD 1 = true ∧ releaseEdge s = true)
    then absReport s else s := by
  rw [forcedAbsReport]
  simp only [actPressAbs, actReleaseAbs, Bool.or_eq_true, Bool.and_eq_true]

theorem modeStep_relative (h : s.mmode = .relative) : modeStep s = relReport s := by
  simp only [modeStep, h]

theorem modeStep_cursorKey (h : s.mmode = .cursorKey) : modeStep s = cursorReport s := by
  simp only [modeStep, h]

/-- Absolute and Off have no report of their own (R239). -/
theorem modeStep_absolute_or_off (h : s.mmode = .absolute ∨ s.mmode = .off) : modeStep s = clearDelta s := by
  rcases h with h | h <;> simp only [modeStep, h]

theorem mouseReport_of_keys (h : s.action.getLsbD 2 = true) : mouseReport s = keysReport s := if_pos h

theorem mouseReport_of_reports (h : s.action.getLsbD 2 = false) :
    mouseReport s = latchButtons (modeStep (forcedAbsReport s)) := if_neg (Bool.eq_false_iff.mp h)

/-- Settles O50: both paths are the model's parts in order, and no part writes a register that a later one tests. -/
theorem mouseReportFollowsActionAndMode : Obligations.MouseReportFollowsActionAndMode := by
  refine fun s hfifo => ⟨fun hkeys => ?keys, fun hreports => ?reports⟩
  case keys =>
    have hfifo' := (offerLeftKey_reports s).fifoWf hfifo
    have hkept := offerLeftKey_rest s
    have hedge : edgeR (offerLeftKey s) = edgeR s := by rw [hkept]; rfl
    have hbtn : (offerLeftKey s).btnR = s.btnR := by rw [hkept]
    refine ⟨offerLeftKey s, offerRightKey (offerLeftKey s), offerLeftKey_offers hfifo, offerLeftKey_of_no_edge,
      fun h => ?_, fun h => offerRightKey_of_no_edge (hedge.trans h),
      (mouseReport_of_keys hkeys).trans (keysReport_eq s)⟩
    exact hbtn ▸ offerRightKey_offers hfifo' (hedge.trans h)
  case reports =>
    have hmode : (forcedAbsReport s).mmode = s.mmode := by rw [(forcedAbsReport_reports s).rest]
    have hlatch : latchButtons (modeStep (forcedAbsReport s)) =
        { modeStep (forcedAbsReport s) with btnLPrev := s.btnL, btnRPrev := s.btnR } := by
      rw [((forcedAbsReport_reports s).trans (modeStep_reports _)).rest]
      rfl
    refine ⟨forcedAbsReport s, modeStep (forcedAbsReport s), fun h => ?_, fun h => ?_,
      fun h => modeStep_relative (hmode.trans h), fun h => modeStep_cursorKey (hmode.trans h),
      fun h => modeStep_absolute_or_off (hmode ▸ h), (mouseReport_of_reports hreports).trans hlatch⟩
    · rw [forcedAbsReport_eq, if_pos h]
    · rw [forcedAbsReport_eq, if_neg h]

end

end Sys2Proof.Machine
end

section
/-! The tick (44_mouse_report_engine.md R231 to R234, R247, R248): the poll and the motion (O44), the monitoring tick
(O45), the order of the reports (O52) and what a tick can add to the FIFO (O53). -/

namespace Sys2Proof.Machine

section
variable {s : State}

/-! ### The poll (R271, D21) -/

theorem joyPoll_off (h : s.mmode = .off) (j0raw j1raw : Byte) : joyPoll j0raw j1raw s = { s with
    jcur0 := joyLines j0raw ||| (joyLines j1raw &&& 0x80), jcur1 := joyLines j1raw,
    btnR := withSrcJoy s.btnR false } := by
  simp only [joyPoll, h]

theorem joyPoll_not_off (h : s.mmode ≠ .off) (j0raw j1raw : Byte) : joyPoll j0raw j1raw s = { s with
    jcur0 := joyLines j0raw, jcur1 := joyLines j1raw &&& 0x0F,
    btnR := withSrcJoy s.btnR (fire (joyLines j1raw)) } := by
  unfold joyPoll
  split
  next hoff => exact absurd hoff h
  all_goals rfl

theorem withSrcJoy_physical (m : BitVec 2) (v : Bool) : (withSrcJoy m v).getLsbD 0 = m.getLsbD 0 := by
  revert m v
  decide

theorem withSrcJoy_joystick (m : BitVec 2) (v : Bool) : (withSrcJoy m v).getLsbD 1 = v := by
  revert m v
  decide

theorem fire_joyLines (raw : Byte) : fire (joyLines raw) = raw.getLsbD 7 := by
  simp [fire, joyLines]

/-- Masking the lines first changes nothing for a mask without bits 6:4 (R61). -/
theorem joyLines_and (raw : Byte) {mask : Byte} (h : 0x8F &&& mask = mask) : joyLines raw &&& mask = raw &&& mask := by
  rw [joyLines, BitVec.and_assoc, h]

/-- In Off stick 1's fire line goes to both sticks and to no button. -/
theorem joyPoll_off_lines (h : s.mmode = .off) (j0raw j1raw : Byte) :
    (joyPoll j0raw j1raw s).jcur0 = (j0raw &&& 0x8F) ||| (j1raw &&& 0x80) ∧
    (joyPoll j0raw j1raw s).jcur1 = j1raw &&& 0x8F ∧ (joyPoll j0raw j1raw s).btnR.getLsbD 1 = false := by
  rw [joyPoll_off h]
  dsimp only
  rw [joyLines_and j1raw (by decide), withSrcJoy_joystick]
  exact ⟨rfl, rfl, rfl⟩

/-- In a mouse mode stick 1's fire line is the right button's joystick source. -/
theorem joyPoll_not_off_lines (h : s.mmode ≠ .off) (j0raw j1raw : Byte) :
    (joyPoll j0raw j1raw s).jcur0 = j0raw &&& 0x8F ∧ (joyPoll j0raw j1raw s).jcur1 = j1raw &&& 0x0F ∧
    (joyPoll j0raw j1raw s).btnR.getLsbD 1 = j1raw.getLsbD 7 := by
  rw [joyPoll_not_off h]
  dsimp only
  rw [joyLines_and j1raw (by decide), withSrcJoy_joystick, fire_joyLines]
  exact ⟨rfl, rfl, rfl⟩

/-- The poll keeps the physical source of the right button (R35). -/
theorem joyPoll_btnR_physical (j0raw j1raw : Byte) (s : State) :
    (joyPoll j0raw j1raw s).btnR.getLsbD 0 = s.btnR.getLsbD 0 := by
  by_cases h : s.mmode = .off
  · rw [joyPoll_off h]
    exact withSrcJoy_physical _ _
  · rw [joyPoll_not_off h]
    exact withSrcJoy_physical _ _

/-! ### The motion and the position (R233, R234, D17, D44) -/

/-- What the motion part of a tick writes. -/
theorem tickMotion_rest (j0raw j1raw : Byte) (s : State) : tickMotion j0raw j1raw s = { s with
    accX := 0, accY := 0, absX := (tickMotion j0raw j1raw s).absX, absY := (tickMotion j0raw j1raw s).absY,
    deltaX := (tickMotion j0raw j1raw s).deltaX, deltaY := (tickMotion j0raw j1raw s).deltaY,
    jcur0 := (tickMotion j0raw j1raw s).jcur0, jcur1 := (tickMotion j0raw j1raw s).jcur1,
    btnR := (tickMotion j0raw j1raw s).btnR } := by
  rw [tickMotion, joyPoll_rest]
  rfl

theorem tickMotion_absX (j0raw j1raw : Byte) (s : State) : (tickMotion j0raw j1raw s).absX =
    u16 (clamp (zext16 s.absX + sext32 s.accX * scaleFactor s.scaleX) 0 (zext16 s.maxX)) := by
  rw [tickMotion, joyPoll_rest]
  rfl

theorem tickMotion_absY (j0raw j1raw : Byte) (s : State) : (tickMotion j0raw j1raw s).absY = u16 (clamp
    (zext16 s.absY + sext32 s.accY * scaleFactor s.scaleY * ysignFactor s.ysign) 0 (zext16 s.maxY)) := by
  rw [tickMotion, joyPoll_rest]
  rfl

theorem tickMotion_deltaX (j0raw j1raw : Byte) (s : State) :
    (tickMotion j0raw j1raw s).deltaX = s32 (sext32 s.deltaX + sext32 s.accX) := by
  rw [tickMotion, joyPoll_rest]
  rfl

theorem tickMotion_deltaY (j0raw j1raw : Byte) (s : State) :
    (tickMotion j0raw j1raw s).deltaY = s32 (sext32 s.deltaY + sext32 s.accY) := by
  rw [tickMotion, joyPoll_rest]
  rfl

/-- A clamped position is exact. -/
theorem u16_clamp_toNat (v : Int) (m : Word16) :
    ((u16 (clamp v 0 (zext16 m))).toNat : Int) = min (max v 0) m.toNat := by
  have hm := m.isLt
  rw [u16, BitVec.toNat_ofInt, clamp, zext16]
  omega

/-- Scale 0 is scale 1 (R234). -/
theorem scaleFactor_eq (scale : Byte) : scaleFactor scale = max 1 (scale.toNat : Int) := by
  rw [scaleFactor, zext8]
  split <;> omega

/-! ### The whole tick (R231) -/

theorem onTick_auto (h : s.jmode = .auto) (j0raw j1raw : Byte) :
    onTick j0raw j1raw s = joyAutoReport (mouseReport (tickMotion j0raw j1raw s)) := by
  have hmode : (tickMotion j0raw j1raw s).jmode = .auto := by rw [tickMotion_rest, h]
  simp only [onTick, hmode]

theorem onTick_off (h : s.jmode = .off) (j0raw j1raw : Byte) :
    onTick j0raw j1raw s = mouseReport (tickMotion j0raw j1raw s) := by
  have hmode : (tickMotion j0raw j1raw s).jmode = .off := by rw [tickMotion_rest, h]
  simp only [onTick, hmode]

theorem onTick_monitoring (h : s.jmode = .monitoring) (j0raw j1raw : Byte) :
    onTick j0raw j1raw s = monitorReport j0raw j1raw (clearDelta (tickMotion j0raw j1raw s)) := by
  have hmode : (tickMotion j0raw j1raw s).jmode = .monitoring := by rw [tickMotion_rest, h]
  simp only [onTick, hmode, monitorTick]

/-- The reports keep what the motion part has written but DELTA. -/
theorem onTick_keeps_motion (j0raw j1raw : Byte) (s : State) :
    (onTick j0raw j1raw s).absX = (tickMotion j0raw j1raw s).absX ∧
    (onTick j0raw j1raw s).absY = (tickMotion j0raw j1raw s).absY ∧
    (onTick j0raw j1raw s).jcur0 = (tickMotion j0raw j1raw s).jcur0 ∧
    (onTick j0raw j1raw s).jcur1 = (tickMotion j0raw j1raw s).jcur1 ∧
    (onTick j0raw j1raw s).btnR = (tickMotion j0raw j1raw s).btnR := by
  rw [(onTick_reports j0raw j1raw s).rest]
  exact ⟨rfl, rfl, rfl, rfl, rfl⟩

/-- What a tick writes, ACC being 0 after it. -/
theorem onTick_frame (j0raw j1raw : Byte) (s : State) {t : State} (ht : onTick j0raw j1raw s = t) : t = { s with
    accX := 0, accY := 0, absX := t.absX, absY := t.absY, deltaX := t.deltaX, deltaY := t.deltaY,
    jcur0 := t.jcur0, jcur1 := t.jcur1, jprev0 := t.jprev0, jprev1 := t.jprev1, btnR := t.btnR,
    btnLPrev := t.btnLPrev, btnRPrev := t.btnRPrev, absPrevMask := t.absPrevMask, out := t.out } := by
  have hreports := (onTick_reports j0raw j1raw s).rest
  rw [tickMotion_rest, ht] at hreports
  rw [hreports]

/-- Settles O44: the motion part writes the position and the poll, and the reports keep both. -/
theorem tickPollsSticksAndMovesPosition : Obligations.TickPollsSticksAndMovesPosition := by
  intro s j0 j1
  obtain ⟨habsX, habsY, hjcur0, hjcur1, hbtnR⟩ := onTick_keeps_motion j0 j1 s
  refine ⟨onTick j0 j1 s, rfl, onTick_frame j0 j1 s rfl, ?posX, ?posY, ?physical, fun h => ?off, fun h => ?on⟩
  case posX =>
    rw [habsX, tickMotion_absX, u16_clamp_toNat, scaleFactor_eq]
    rfl
  case posY =>
    rw [habsY, tickMotion_absY, u16_clamp_toNat, scaleFactor_eq]
    rfl
  case physical => exact hbtnR ▸ joyPoll_btnR_physical j0 j1 s
  case off =>
    rw [hjcur0, hjcur1, hbtnR]
    exact joyPoll_off_lines h j0 j1
  case on =>
    rw [hjcur0, hjcur1, hbtnR]
    exact joyPoll_not_off_lines h j0 j1

/-! ### Monitoring (R247, R276) -/

theorem two_bits_toNat (a b : Bool) :
    ((BitVec.ofBool a ++ BitVec.ofBool b).setWidth 8).toNat = 2 * a.toNat + b.toNat := by
  revert a b
  decide

theorem dir_toNat (raw : Byte) : (dir raw).toNat = raw.toNat % 16 := by
  rw [dir, BitVec.extractLsb'_toNat, Nat.shiftRight_zero]

/-- Two half bytes, the first one high. -/
theorem append4_toNat (a b : BitVec 4) : (a ++ b).toNat = 16 * a.toNat + b.toNat := by
  have hb := b.isLt
  rw [BitVec.toNat_append, ← Nat.shiftLeft_add_eq_or_of_lt hb, Nat.shiftLeft_eq]
  omega

/-- The packet's two bytes in numbers (R276, D23, GK9). -/
theorem monitorPacket_toNat (j0 j1 : Byte) : ∃ b1 b2 : Byte, monitorPacket j0 j1 = [b1, b2] ∧
    b1.toNat = 2 * (j0.getLsbD 7).toNat + (j1.getLsbD 7).toNat ∧ b2.toNat = 16 * (j0.toNat % 16) + j1.toNat % 16 := by
  refine ⟨_, _, rfl, two_bits_toNat (fire j0) (fire j1), ?_⟩
  rw [append4_toNat, dir_toNat, dir_toNat]

/-- Settles O45: the tick is the motion part, DELTA cleared and one packet offered. -/
theorem monitoringTickOffersRawSticksOnly : Obligations.MonitoringTickOffersRawSticksOnly := by
  intro s j0 j1 hfifo hmode
  obtain ⟨b1, b2, hpacket, hb1, hb2⟩ := monitorPacket_toNat j0 j1
  have hrest := tickMotion_rest j0 j1 s
  have htick := onTick_monitoring hmode j0 j1
  have hfifo' : FifoWf (clearDelta (tickMotion j0 j1 s)).cfg.outCap (clearDelta (tickMotion j0 j1 s)).out := by
    rw [hrest]
    exact hfifo
  rw [monitorReport, hpacket] at htick
  refine ⟨_, clearDelta (tickMotion j0 j1 s), b1, b2, congrArg Host.Outcome.next htick,
    enqueue_offers (Nat.succ_pos 1) hfifo', ?_, hb1, hb2⟩
  rw [clearDelta, hrest]
  rfl

/-! ### The order of the reports (R231, R273, R280) -/

/-- Settles O52: the state between is what the motion part leaves. -/
theorem tickOrdersItsReports : Obligations.TickOrdersItsReports := by
  refine fun s j0 j1 => ⟨tickMotion j0 j1 s, tickMotion_rest j0 j1 s, fun lo hi => ?deltaX, fun lo hi => ?deltaY,
    fun h => congrArg Host.Outcome.next (onTick_auto h j0 j1), fun h => congrArg Host.Outcome.next (onTick_off h j0 j1),
    fun h => congrArg Host.Outcome.next (onTick_monitoring h j0 j1)⟩
  case deltaX =>
    rw [tickMotion_deltaX]
    exact s32_toInt_of_fits lo hi
  case deltaY =>
    rw [tickMotion_deltaY]
    exact s32_toInt_of_fits lo hi

/-! ### How much a tick can add to the FIFO (R248) -/

/-- OUT_COUNT is not lowered, and raised by at most `n`. -/
def AddsAtMost (n : Nat) (s t : State) : Prop := s.out.count ≤ t.out.count ∧ t.out.count ≤ s.out.count + n

theorem AddsAtMost.refl (n : Nat) (s : State) : AddsAtMost n s s := ⟨Nat.le_refl _, Nat.le_add_right _ _⟩

theorem AddsAtMost.trans {m n : Nat} {t u : State} (h : AddsAtMost m s t) (k : AddsAtMost n t u) :
    AddsAtMost (m + n) s u := by
  obtain ⟨hlo, hhi⟩ := h
  obtain ⟨klo, khi⟩ := k
  exact ⟨by omega, by omega⟩

theorem AddsAtMost.mono {m n : Nat} {t : State} (h : AddsAtMost m s t) (hmn : m ≤ n) : AddsAtMost n s t :=
  ⟨h.1, h.2.trans (Nat.add_le_add_left hmn _)⟩

/-- A report that is made only under a condition. -/
theorem AddsAtMost.ite {n : Nat} {c : Prop} [Decidable c] {t u : State} (ht : AddsAtMost n s t)
    (hu : AddsAtMost n s u) :
    AddsAtMost n s (if c then t else u) := by
  split
  · exact ht
  · exact hu

/-- Only the FIFO counts. -/
theorem AddsAtMost.of_out_eq {n : Nat} {t u : State} (h : AddsAtMost n s t) (hu : u.out = t.out) :
    AddsAtMost n s u := by
  rw [AddsAtMost, hu]
  exact h

/-- One packet, whatever else is written after it. -/
theorem AddsAtMost.of_enqueue {t : State} (p : List Byte) (ht : t.out = (enqueue p s).out) :
    AddsAtMost p.length s t := by
  rw [AddsAtMost, ht, enqueue]
  dsimp only
  split
  · rw [OutFifo.pushAll_count]
    exact ⟨Nat.le_add_right _ _, Nat.le_refl _⟩
  · exact AddsAtMost.refl p.length s

theorem keysReport_adds (s : State) : AddsAtMost 2 s (keysReport s) := by
  have hleft (s : State) : AddsAtMost 1 s (offerLeftKey s) := .ite (.of_enqueue [_] rfl) (.refl 1 s)
  have hright (s : State) : AddsAtMost 1 s (offerRightKey s) := .ite (.of_enqueue [_] rfl) (.refl 1 s)
  exact ((hleft s).trans (hright _)).of_out_eq (by rw [keysReport_eq])

theorem forcedAbsReport_adds (s : State) : AddsAtMost 6 s (forcedAbsReport s) :=
  .ite (.of_enqueue (absPacket _ _ _) rfl) (.refl 6 s)

/-- Under PerTick at most one relative packet. -/
theorem relReport_adds (h : s.cfg.relLoop = .perTick) : AddsAtMost 3 s (relReport s) := by
  rw [relReport_perTick h, relStep_eq]
  split
  · exact .of_enqueue (relPacket s) rfl
  · exact .refl 3 s

/-- Two key strokes and two button keys. -/
theorem cursorStep_adds (s : State) : AddsAtMost 6 s (cursorStep s) := by
  have hX (s : State) : AddsAtMost 2 s (cursorStepX s) :=
    .ite (.of_enqueue (keyStroke 0x4B) rfl) (.ite (.of_enqueue (keyStroke 0x4D) rfl) (.refl 2 s))
  have hY (s : State) : AddsAtMost 2 s (cursorStepY s) :=
    .ite (.of_enqueue (keyStroke 0x48) rfl) (.ite (.of_enqueue (keyStroke 0x50) rfl) (.refl 2 s))
  have hL (s : State) : AddsAtMost 1 s (cursorButtonL s) := .ite (.of_enqueue [_] rfl) (.refl 1 s)
  have hR (s : State) : AddsAtMost 1 s (cursorButtonR s) := .ite (.of_enqueue [_] rfl) (.refl 1 s)
  exact (((hX s).trans (hY _)).trans (hL _)).trans (hR _)

theorem cursorLoop_adds (n : Nat) (s : State) : AddsAtMost (6 * n) s (cursorLoop n s) := by
  induction n generalizing s with
  | zero => exact .refl 0 s
  | succ n ih => exact .ite (((cursorStep_adds s).trans (ih _)).mono (by omega)) (.refl _ s)

theorem modeStep_adds (h : s.cfg.relLoop = .perTick) : AddsAtMost 60 s (modeStep s) := by
  unfold modeStep
  split
  · exact (relReport_adds h).mono (by decide)
  · exact cursorLoop_adds cursorMaxSteps s
  · exact .refl 60 s
  · exact .refl 60 s

theorem mouseReport_adds (h : s.cfg.relLoop = .perTick) : AddsAtMost 66 s (mouseReport s) := by
  have hcfg : (forcedAbsReport s).cfg.relLoop = .perTick := (forcedAbsReport_reports s).cfg_eq ▸ h
  exact .ite ((keysReport_adds s).mono (by decide)) ((forcedAbsReport_adds s).trans (modeStep_adds hcfg))

theorem joyAutoReport_adds (s : State) : AddsAtMost 4 s (joyAutoReport s) := by
  have h0 : AddsAtMost 2 s (joyAutoStick0 s) := .ite (.of_enqueue [0xFE, _] rfl) (.refl 2 s)
  have h1 (s : State) : AddsAtMost 2 s (joyAutoStick1 s) := .ite (.of_enqueue [0xFF, _] rfl) (.refl 2 s)
  exact h0.trans (h1 _)

theorem onTick_adds (h : s.cfg.relLoop = .perTick) (j0raw j1raw : Byte) :
    AddsAtMost 70 (tickMotion j0raw j1raw s) (onTick j0raw j1raw s) := by
  have hmouse : AddsAtMost 66 (tickMotion j0raw j1raw s) (mouseReport (tickMotion j0raw j1raw s)) :=
    mouseReport_adds (by rw [tickMotion_rest, h])
  cases hmode : s.jmode with
  | auto => exact onTick_auto hmode j0raw j1raw ▸ hmouse.trans (joyAutoReport_adds _)
  | off => exact onTick_off hmode j0raw j1raw ▸ hmouse.mono (by decide)
  | monitoring =>
    have hpacket := AddsAtMost.of_enqueue (s := clearDelta (tickMotion j0raw j1raw s)) (monitorPacket j0raw j1raw) rfl
    exact onTick_monitoring hmode j0raw j1raw ▸ AddsAtMost.mono hpacket (Nat.le_add_left 2 68)

/-- Settles O53: 6 bytes of a forced absolute report, 60 of ten cursor steps and 4 of two sticks; the motion part offers
nothing. -/
theorem tickOutputIsBounded : Obligations.TickOutputIsBounded := by
  intro s t j0 j1 hper ht
  have hmotion : (tickMotion j0 j1 s).out = s.out := by rw [tickMotion_rest]
  have hadds := onTick_adds hper j0 j1
  cases ht
  rwa [AddsAtMost, hmotion] at hadds

end

end Sys2Proof.Machine
end

section
/-! The joystick auto report (45_joystick_key_engine.md R274, R275): O51; and the key and mouse events (R281 to R284): O39 to
O42. -/

namespace Sys2Proof.Machine

section
variable {s : State}

/-! ### The auto report (R274, R275, D8) -/

/-- The part of a stick's turn that offers, apart from the recording in JPREV. -/
def offerStick (header cur prev : Byte) (s : State) : State := if cur ≠ prev then enqueue [header, cur] s else s

theorem offerStick_offers {cur prev : Byte} (header : Byte) (hfifo : FifoWf s.cfg.outCap s.out) (h : cur ≠ prev) :
    Offers s (offerStick header cur prev s) [header, cur] := by
  rw [offerStick, if_pos h]
  exact enqueue_offers (Nat.succ_pos 1) hfifo

theorem offerStick_of_unchanged {cur prev : Byte} (header : Byte) (h : cur = prev) :
    offerStick header cur prev s = s := if_neg (not_not_intro h)

theorem offerStick_reports (header cur prev : Byte) (s : State) : Reports s (offerStick header cur prev s) := by
  unfold offerStick
  split
  · exact enqueue_reports _ s
  · exact .refl s

/-- An offer writes the FIFO alone. -/
theorem offerStick_rest (header cur prev : Byte) (s : State) :
    offerStick header cur prev s = { s with out := (offerStick header cur prev s).out } := by
  unfold offerStick
  split <;> rfl

/-- An offer neither reads nor writes what was last sent of stick 0. -/
theorem offerStick_jprev0 (header cur prev v : Byte) (s : State) :
    offerStick header cur prev { s with jprev0 := v } = { offerStick header cur prev s with jprev0 := v } := by
  unfold offerStick
  split <;> rfl

/-- A stick's turn records the current mask always: where nothing is offered it is recorded already. -/
theorem joyAutoStick0_eq (s : State) :
    joyAutoStick0 s = { offerStick 0xFE s.jcur0 s.jprev0 s with jprev0 := s.jcur0 } := by
  by_cases h : s.jcur0 = s.jprev0
  · rw [offerStick_of_unchanged _ h, joyAutoStick0, if_neg (by simp [h])]
    exact congrArg (fun v => { s with jprev0 := v }) h.symm
  · simp [joyAutoStick0, offerStick, h]

theorem joyAutoStick1_eq (s : State) :
    joyAutoStick1 s = { offerStick 0xFF s.jcur1 s.jprev1 s with jprev1 := s.jcur1 } := by
  by_cases h : s.jcur1 = s.jprev1
  · rw [offerStick_of_unchanged _ h, joyAutoStick1, if_neg (by simp [h])]
    exact congrArg (fun v => { s with jprev1 := v }) h.symm
  · simp [joyAutoStick1, offerStick, h]

/-- Both offers come first, then both masks are recorded: stick 1's turn reads nothing that stick 0's has written but the
FIFO. -/
theorem joyAutoReport_eq (s : State) : joyAutoReport s =
    { offerStick 0xFF s.jcur1 s.jprev1 (offerStick 0xFE s.jcur0 s.jprev0 s) with
      jprev0 := s.jcur0, jprev1 := s.jcur1 } := by
  rw [joyAutoReport, joyAutoStick0_eq, joyAutoStick1_eq, offerStick_jprev0, offerStick_rest 0xFE]

/-- Settles O51: the states between are those after each stick's offer. -/
theorem autoReportSendsChangedSticks : Obligations.AutoReportSendsChangedSticks := fun s hfifo =>
  have hfifo' := (offerStick_reports 0xFE s.jcur0 s.jprev0 s).fifoWf hfifo
  ⟨offerStick 0xFE s.jcur0 s.jprev0 s, offerStick 0xFF s.jcur1 s.jprev1 (offerStick 0xFE s.jcur0 s.jprev0 s),
    offerStick_offers 0xFE hfifo, offerStick_of_unchanged 0xFE, offerStick_offers 0xFF hfifo',
    offerStick_of_unchanged 0xFF, joyAutoReport_eq s⟩

/-! ### Keys (R281, R282) -/

/-- The two fields of a key byte do not overlap. -/
theorem keyByte_eq_append (code : BitVec 7) (isPressed : Bool) :
    keyByte code isPressed = (BitVec.ofBool (!isPressed) ++ code : BitVec (1 + 7)) := by
  rw [keyByte, BitVec.append_def, BitVec.or_comm, BitVec.setWidth'_eq]
  cases isPressed <;> rfl

theorem keyByte_toNat (code : BitVec 7) (isPressed : Bool) :
    (keyByte code isPressed).toNat = code.toNat + (if isPressed then 0 else 128) := by
  rw [keyByte_eq_append, BitVec.toNat_append, ← Nat.shiftLeft_add_eq_or_of_lt code.isLt, Nat.add_comm]
  cases isPressed <;> rfl

/-- Settles O39: the fields of an append are its parts. -/
theorem keyByteFormat : Obligations.KeyByteFormat := by
  refine ⟨fun code isPressed => ⟨?release, ?code⟩, fun code _ => keyByte_toNat code false⟩
  case release =>
    rw [keyByte_eq_append, BitVec.getLsbD_append]
    simp
  case code => rw [keyByte_eq_append, BitVec.extractLsb'_append_eq_right]

theorem onKeyTransition_monitoring (h : s.jmode = .monitoring) (code : BitVec 7) (isPressed : Bool) :
    onKeyTransition code isPressed s = { s with keyState := s.keyState.set code.toNat isPressed code.isLt } := by
  simp only [onKeyTransition, h]

theorem onKeyTransition_not_monitoring (h : s.jmode ≠ .monitoring) (code : BitVec 7) (isPressed : Bool) :
    onKeyTransition code isPressed s =
      enqueue [keyByte code isPressed] { s with keyState := s.keyState.set code.toNat isPressed code.isLt } := by
  unfold onKeyTransition
  split
  next hmonitoring => exact absurd hmonitoring h
  all_goals rfl

/-- Settles O40: the mode decides only whether the byte is offered. -/
theorem keyTransitionWritesStateAndOffersByte : Obligations.KeyTransitionWritesStateAndOffersByte := by
  refine fun s code isPressed hfifo => ⟨onKeyTransition code isPressed s, s.keyState.set code.toNat isPressed code.isLt,
    rfl, fun k => ?entry, fun h => onKeyTransition_monitoring h code isPressed,
    fun h => ⟨keyByte code isPressed, keyByte_toNat code isPressed, ?offer⟩⟩
  case entry => simp only [Fin.getElem_fin, Vector.getElem_set, eq_comm]
  case offer =>
    rw [onKeyTransition_not_monitoring h]
    exact enqueue_offers Nat.one_pos hfifo

/-! ### Mouse motion and buttons (R283, R284) -/

/-- Settles O41: a sum that fits is stored exactly. -/
theorem mouseMotionAccumulates : Obligations.MouseMotionAccumulates := fun s dx dy =>
  ⟨onMouseMotion dx dy s, rfl, rfl, s32_toInt_of_fits, s32_toInt_of_fits⟩

theorem withSrcMouse_physical (m : BitVec 2) (v : Bool) : (withSrcMouse m v).getLsbD 0 = v := by
  revert m v
  decide

/-- Settles O42: the event sets SRC_MOUSE in both masks. -/
theorem mouseButtonsWritePhysicalSource : Obligations.MouseButtonsWritePhysicalSource := fun s l r =>
  ⟨onMouseButtons l r s, rfl, rfl, withSrcMouse_physical s.btnL l, withSrcMouse_bit s.btnL l,
    withSrcMouse_physical s.btnR r, withSrcMouse_bit s.btnR r⟩

end

end Sys2Proof.Machine
end

section
/-! Reset and the boot phase (70_reset_and_hazards.md): what Booting lets out (O33), the cold reset (O30) and the boot
timer's expiry (O32). -/

namespace Sys2Proof.Machine

section
variable {s t : State}

/-! ### The empty FIFO (R323) -/

theorem unread_of_empty (h : s.out.count = 0) : s.unread = [] :=
  List.eq_nil_of_length_eq_zero (OutFifo.contents_length.trans h)

theorem Inv.unread_while_booting (hi : Inv s) (h : s.booting = true) : s.unread = [] :=
  unread_of_empty (hi.bootEmpty h)

/-! ### What an event puts on the output ports (R60, R76, R321) -/

/-- From `s` to `t` nothing goes out but, at most, one BootTimerArm strobe. -/
def AtMostStrobe (s t : State) : Prop := t.outputs = s.outputs ∨ t.outputs = s.outputs ++ [.bootTimerArm]

/-- Of the commands only RESET puts anything out: its strobe. -/
theorem exec_atMostStrobe {i : Instr} (h : exec i s = .next t) : AtMostStrobe s t := by
  by_cases hi : i = .reset 0x01
  · subst hi
    cases h
    exact .inr rfl
  · rw [(exec_effect hi h).rest]
    exact .inl rfl

theorem appendHostByte_outputs (b : Byte) (s : State) : (appendHostByte b s).outputs = s.outputs := by
  unfold appendHostByte
  split <;> rfl

/-- Storing a byte puts nothing out, so a host byte does what the command it completes does. -/
theorem onHostByte_atMostStrobe {b : Byte} (h : onHostByte b s = .next t) : AtMostStrobe s t := by
  rw [AtMostStrobe, ← appendHostByte_outputs b s]
  by_cases hroom : s.cmdLen.val < 8
  · rcases onHostByte_cases (b := b) hroom with ⟨-, e⟩ | ⟨-, -, -, e⟩ | ⟨-, i, -, -, -, -, e⟩
    all_goals rw [e] at h
    · cases h
      exact .inl rfl
    · cases h
      exact .inl rfl
    · exact exec_atMostStrobe h
  · cases (onHostByte_full hroom).symm.trans h
    exact .inl (appendHostByte_outputs b s).symm

theorem onKeyTransition_outputs (code : BitVec 7) (isPressed : Bool) (s : State) :
    (onKeyTransition code isPressed s).outputs = s.outputs := by
  rw [onKeyTransition_eq]
  dsimp only
  split <;> rfl

/-- A data byte leaves by OutPop only (R76), so with the FIFO empty no event sends one. -/
theorem takeEvent_atMostStrobe {e : Event} (hempty : s.out.count = 0) (h : takeEvent e s = .next t) :
    AtMostStrobe s t := by
  cases e with
  | hostByte b => exact onHostByte_atMostStrobe h
  | tick j0raw j1raw =>
    cases h
    obtain ⟨u, hu⟩ := onTick_rest j0raw j1raw s
    rw [hu]
    exact .inl rfl
  | keyTransition code isPressed =>
    cases h
    exact .inl (onKeyTransition_outputs code isPressed s)
  | mouseMotion dx dy => cases h; exact .inl rfl
  | mouseButtons l r => cases h; exact .inl rfl
  | bootTimerExpire =>
    cases h
    unfold onBootTimerExpire
    rw [enqueueDelayed_eq]
    split <;> exact .inl rfl
  | outPop =>
    cases h
    rw [onOutPop_of_empty hempty]
    exact .inl rfl
  | coldReset => cases h; exact .inr rfl

theorem step_atMostStrobe (hempty : s.out.count = 0) (h : step s = .next t) : AtMostStrobe s t := by
  obtain ⟨-, ⟨-, rfl⟩ | ⟨e, rest, -, he⟩⟩ := step_cases h
  · exact .inl rfl
  · exact takeEvent_atMostStrobe (s := { s with inputs := rest }) hempty he

/-! ### The end of Booting (R43, R303) -/

/-- A reset enters Booting, and no other step but the expiry writes the phase. -/
theorem step_keeps_booting (hb : s.booting = true) (h : step s = .next t) (hexpire : ¬ Takes s .bootTimerExpire) :
    t.booting = true := by
  rcases step_effect h with hreset | heffect
  · cases hreset <;> rfl
  · by_contra hready
    obtain ⟨htakes, -⟩ := heffect.boot_writer (.inl fun heq => hready (heq.trans hb))
    exact hexpire htakes

/-! ### The cold reset (R58, R317) -/

/-- R58's cold column: the start state but for CMDBUF, OUTBUF and the environment's lists. -/
theorem resetTo_cold_eq (s : State) : s.resetTo .cold = { State.initial s.cfg with
    inputs := s.inputs, outputs := s.outputs ++ [.bootTimerArm], freeCount := s.freeCount + 8,
    cmdBuf := (s.resetTo .cold).cmdBuf, out := { buf := s.out.buf, head := 0, tail := 0, count := 0 } } := rfl

/-! ### The expiry (R322) -/

/-- The registers as the boot byte finds them: the flags are cleared before it is offered. -/
def State.booted (s : State) : State := { s with timerArmed := false, booting := false, medr := false }

theorem onBootTimerExpire_armed (h : s.timerArmed = true) :
    onBootTimerExpire s = enqueue [s.cfg.bootByte] s.booted := by
  rw [onBootTimerExpire, if_pos h, enqueueDelayed_eq]
  rfl

theorem onBootTimerExpire_unarmed (h : s.timerArmed = false) : onBootTimerExpire s = s :=
  if_neg (Bool.eq_false_iff.mp h)

/-- Booting has kept the FIFO empty and PAUSE 0, so the boot byte is not dropped (R323). -/
theorem Inv.booted_room (hi : Inv s) (hb : s.booting = true) : Room s.booted 1 := by
  have hhead := hi.fifo.head
  have hempty := hi.bootEmpty hb
  refine ⟨rfl, hi.bootUnpaused hb, ?_⟩
  show s.out.count + 1 ≤ s.cfg.outCap
  omega

end

/-- Settles O33: the step keeps the phase and, with it, the invariant's empty FIFO; and what is empty sends no byte. -/
theorem bootingSuppressesOutputUntilExpiry : Obligations.BootingSuppressesOutputUntilExpiry := by
  intro s t hi hb hstep hexpire
  have hi' : Inv t := everyStepKeepsInvariant s t hi hstep
  have hb' : t.booting = true := step_keeps_booting hb hstep hexpire
  exact ⟨hb', hi'.unread_while_booting hb', step_atMostStrobe (hi.bootEmpty hb) hstep⟩

/-- Settles O30: the event is `Reset(Cold)`. -/
theorem coldResetGivesInitialState : Obligations.ColdResetGivesInitialState :=
  fun s => ⟨s.resetTo .cold, rfl, resetTo_cold_eq s⟩

/-- Settles O32: the boot byte is admitted, behind nothing. -/
theorem bootTimerExpiryOpensReady : Obligations.BootTimerExpiryOpensReady := by
  refine ⟨fun s hi harmed => ?armed, fun s hunarmed => congrArg Host.Outcome.next (onBootTimerExpire_unarmed hunarmed)⟩
  case armed =>
    have hb : s.booting = true := hi.timer.symm.trans harmed
    have hoffers : Offers s.booted (enqueue [s.cfg.bootByte] s.booted) [s.cfg.bootByte] :=
      enqueue_offers Nat.one_pos hi.fifo
    have happends := hoffers.1 (hi.booted_room hb)
    refine ⟨_, congrArg Host.Outcome.next (onBootTimerExpire_armed harmed), happends.rest, ?_⟩
    calc (enqueue [s.cfg.bootByte] s.booted).unread
        _ = s.unread ++ [s.cfg.bootByte] := happends.unread
        _ = [s.cfg.bootByte] := by rw [hi.unread_while_booting hb, List.nil_append]

end Sys2Proof.Machine
end
